-- ==== Sys2Proof/Word.lean ====
section
/-! DEFINITION. The unit of every frame and page: the byte (R6), and a run of zero bytes (R7). -/

namespace Sys2Proof

/-- A byte is 8 bits (R6). -/
abbrev Byte := BitVec 8

/-- `zeros(n)` is `n` bytes of 0x00 (R7). -/
def zeros (n : Nat) : List Byte := List.replicate n 0

end Sys2Proof
end

