-- ==== Sys2Proof/Config.lean ====
section
/-! DEFINITION. The configuration the block is created with: the rows of R5 that are OPEN, or decided but kept by
name. What no source gives is an opaque constant: nothing can evaluate it or prove a value of it (log 7).
One more parameter keeps open what two rules settle differently (log 29). -/

namespace Sys2Proof

/-- The named parameters of R5, and one of the model's own. The lengths of the three fixed replies are part of their
types, as R5 asks. -/
structure Config where
  /-- SNAP_HDR, the first snapshot byte (OPEN, D4). -/
  snapHdr : Byte
  /-- SUB01_REPLY (OPEN, D18). -/
  sub01Reply : Vector Byte 2
  /-- SUB02_REPLY (OPEN, D18). -/
  sub02Reply : Vector Byte 12
  /-- SUB21_REPLY (OPEN, D18). -/
  sub21Reply : Vector Byte 8
  /-- CAL_A, the page of bank 0x60: 16 to 256 bytes (OPEN, R21, R41). -/
  calA : List Byte
  /-- CAL_B, the page of bank CAL_BANK_B: at most 256 bytes (OPEN, R21, R41). -/
  calB : List Byte
  /-- DPAD_W, the width of a directional-pad count: at least 1 (OPEN, D6). -/
  dpadW : Nat
  /-- RX_MAX, the longest inbound frame: at least 16 (OPEN, R75). -/
  rxMax : Nat
  /-- RID_FULL_OUT (decided 0x01, D2). -/
  ridFullOut : Byte
  /-- RID_IGNORED, a set of bytes (decided {0x10}, D3). -/
  ridIgnored : List Byte
  /-- CAL_BANK_B (decided 0x80, D17). -/
  calBankB : Byte
  /-- P_ECHO_EN (decided false, D9; R138). -/
  pEchoEn : Bool
  /-- Whether NotConnected goes to the owner as a result of CLOSE, as R206 says, or is a diagnostic only, as R192, R34 and
  the row of R200 say. No row of R5: the rules disagree and nothing rules between them, so both are modelled (log 29). -/
  notConnectedToOwner : Bool
deriving DecidableEq, Repr

/-- RID_USB_CMD (R5). -/
def ridUsbCmd : Byte := 0x80
/-- CAL_BANK_A (R5, R41). -/
def calBankA : Byte := 0x60

namespace Config

/-- The constraints R5 and 92_eei_decisions.md put on the report identifiers. -/
def idsOk (c : Config) : Bool :=
  c.ridFullOut != ridUsbCmd && !c.ridIgnored.contains c.ridFullOut

/-- Every constraint a configuration must meet: page lengths (R41), widths (R5), identifiers and banks
("A configuration must keep RID_FULL_OUT different from 0x80 and outside RID_IGNORED, and CAL_BANK_B different
from 0x60"). A model refuses any other. -/
def wf (c : Config) : Bool :=
  c.idsOk && c.calBankB != calBankA && decide (16 ≤ c.calA.length) && decide (c.calA.length ≤ 256)
    && decide (c.calB.length ≤ 256) && decide (1 ≤ c.dpadW) && decide (16 ≤ c.rxMax)

/-- The byte SNAP_HDR of the one block that is built: no value is assumed (log 7). -/
opaque openSnapHdr : Byte
/-- The bytes of SUB01_REPLY (log 7). -/
opaque openSub01 : Fin 2 → Byte
/-- The bytes of SUB02_REPLY (log 7). -/
opaque openSub02 : Fin 12 → Byte
/-- The bytes of SUB21_REPLY (log 7). -/
opaque openSub21 : Fin 8 → Byte
/-- The first 16 bytes of CAL_A (log 7). -/
opaque openCalAHead : Fin 16 → Byte
/-- What follows them in CAL_A; only its first 240 bytes are used (log 7). -/
opaque openCalATail : List Byte
/-- CAL_B; only its first 256 bytes are used (log 7). -/
opaque openCalB : List Byte
/-- DPAD_W less 1 (log 7). -/
opaque openDpadExtra : Nat
/-- RX_MAX less 16 (log 7). -/
opaque openRxExtra : Nat
/-- Which of the two readings of NotConnected the block has (log 29). -/
opaque openNotConnectedToOwner : Bool
/-- SEQ before the first CONNECT, "unspecified and unobservable" (R12; log 6). -/
opaque seqAtCreation : Byte

end Config

end Sys2Proof
end

