-- ==== Sys2Proof/Syntax.lean ====
section
/-! DEFINITION. The commands of the block: one constructor per row of spec/opcode_table.json (R72, R73, R78), with the
operand bytes the row's `fields` name. -/

namespace Sys2Proof

/-- A decoded inbound frame. -/
inductive Instr where
  /-- HS_INIT, "handshake init" (R131). -/
  | hsInit
  /-- HS_BAUD2, first of the "baud-rate negotiation steps" (R132). -/
  | hsBaud2
  /-- HS_BAUD3, second of the "baud-rate negotiation steps" (R133). -/
  | hsBaud3
  /-- HS_RPT_ON, "enable periodic input reporting" (R134). -/
  | hsRptOn
  /-- HS_RPT_OFF, "disable periodic input reporting" (R135). -/
  | hsRptOff
  /-- HS_UNK, any other handshake code (R136). -/
  | hsUnk (code : Byte)
  /-- SUB_PAIR, "manual pairing step" (R142). -/
  | subPair
  /-- SUB_DEVINFO, "device identity query" (R143). -/
  | subDevinfo
  /-- SUB_CFG03, "mode/config set" (R144). -/
  | subCfg03
  /-- SUB_TIME, "elapsed-time query" (R151). -/
  | subTime
  /-- SUB_CFG08, "mode/config set" (R145). -/
  | subCfg08
  /-- SUB_SPIRD, "read calibration memory" (R152), with inbound bytes 11 to 15 (R63). -/
  | subSpird (off bank hdr13 hdr14 n : Byte)
  /-- SUB_VIB, "vibration/motion-enable handshake" (R153). -/
  | subVib
  /-- SUB_CFG30, "mode/config set" (R146). -/
  | subCfg30
  /-- SUB_CFG38, "mode/config set" (R147). -/
  | subCfg38
  /-- SUB_CFG40, "mode/config set" (R148). -/
  | subCfg40
  /-- SUB_CFG41, "mode/config set" (R149). -/
  | subCfg41
  /-- SUB_CFG48, "mode/config set" (R150). -/
  | subCfg48
  /-- SUB_UNK, any other sub-command code (R154). -/
  | subUnk (sc : Byte)
  /-- IGNORE, a frame whose identifier is the member `rid` of RID_IGNORED (R171). The table gives the row no operand
  because the decided set has one member; with the set as a parameter (R5) the member is the operand. -/
  | ignore (rid : Byte)
  /-- RPT_UNK, any other report identifier (R172). -/
  | rptUnk (rid : Byte)
deriving DecidableEq, Repr

end Sys2Proof
end

