-- ==== Sys2Proof/WellFormed.lean ====
section
/-! DEFINITION. Which terms of `Instr` stand for a frame under a configuration: the catch-all rows hold no code of
another row (R72, R73, R78), and the identifier rows hold an identifier of their own class (R60). -/

namespace Sys2Proof

/-- The handshake codes with a row of their own (R72). -/
def handshakeCodes : List Byte := [0x01, 0x02, 0x03, 0x04, 0x05]

/-- The sub-command codes with a row of their own (R73). -/
def subCommandCodes : List Byte :=
  [0x01, 0x02, 0x03, 0x04, 0x08, 0x10, 0x21, 0x30, 0x38, 0x40, 0x41, 0x48]

/-- The check of one term. -/
def Instr.wellFormed (c : Config) : Instr → Bool
  | .hsInit => true
  | .hsBaud2 => true
  | .hsBaud3 => true
  | .hsRptOn => true
  | .hsRptOff => true
  | .hsUnk code => !handshakeCodes.contains code
  | .subPair => true
  | .subDevinfo => true
  | .subCfg03 => true
  | .subTime => true
  | .subCfg08 => true
  | .subSpird _ _ _ _ _ => true
  | .subVib => true
  | .subCfg30 => true
  | .subCfg38 => true
  | .subCfg40 => true
  | .subCfg41 => true
  | .subCfg48 => true
  | .subUnk sc => !subCommandCodes.contains sc
  | .ignore rid => rid != ridUsbCmd && rid != c.ridFullOut && c.ridIgnored.contains rid
  | .rptUnk rid => rid != ridUsbCmd && rid != c.ridFullOut && !c.ridIgnored.contains rid

end Sys2Proof
end

