-- ==== Sys2Proof/Decode.lean ====
section
/-! DEFINITION. Decoding an inbound frame (R71 to R76), the encoder of the canonical frames (R77), the command table as
rows of mask and match (R78), and the configuration of the block that is built (R5). -/

namespace Sys2Proof

/-- The configuration of the block: the decided values of R5 (logs 8, 9, 10, 15), and opaque constants for what is
OPEN (log 7) and for what two rules settle differently (log 29). CAL_A is 16 to 256 bytes and
CAL_B at most 256, whatever the constants are. -/
def Config.configured : Config where
  snapHdr := openSnapHdr
  sub01Reply := #v[openSub01 0, openSub01 1]
  sub02Reply := #v[openSub02 0, openSub02 1, openSub02 2, openSub02 3, openSub02 4, openSub02 5, openSub02 6,
    openSub02 7, openSub02 8, openSub02 9, openSub02 10, openSub02 11]
  sub21Reply := #v[openSub21 0, openSub21 1, openSub21 2, openSub21 3, openSub21 4, openSub21 5, openSub21 6,
    openSub21 7]
  calA := (List.finRange 16).map openCalAHead ++ openCalATail.take 240
  calB := openCalB.take 256
  dpadW := openDpadExtra + 1
  rxMax := openRxExtra + 16
  ridFullOut := 0x01
  ridIgnored := [0x10]
  calBankB := 0x80
  pEchoEn := false
  notConnectedToOwner := openNotConnectedToOwner

/-- Why a frame is no command: it is too short for its format (R71, R173). -/
inductive Rejected where
  /-- ShortFrame with the length of the frame. -/
  | shortFrame (len : Nat)
deriving DecidableEq, Repr

/-- `F[i]` (R7); used only below a length test. -/
def byteAt (F : List Byte) (i : Nat) : Byte := F.getD i 0

/-- The handshake command selected by F[1] (R72). -/
def decodeHandshake (code : Byte) : Instr :=
  if code = 0x01 then .hsInit
  else if code = 0x02 then .hsBaud2
  else if code = 0x03 then .hsBaud3
  else if code = 0x04 then .hsRptOn
  else if code = 0x05 then .hsRptOff
  else .hsUnk code

/-- The sub-command selected by F[10]; only SUB_SPIRD takes operands, inbound bytes 11 to 15 (R63, R73). -/
def decodeSubCommand (sc b11 b12 b13 b14 b15 : Byte) : Instr :=
  if sc = 0x01 then .subPair
  else if sc = 0x02 then .subDevinfo
  else if sc = 0x03 then .subCfg03
  else if sc = 0x04 then .subTime
  else if sc = 0x08 then .subCfg08
  else if sc = 0x10 then .subSpird b11 b12 b13 b14 b15
  else if sc = 0x21 then .subVib
  else if sc = 0x30 then .subCfg30
  else if sc = 0x38 then .subCfg38
  else if sc = 0x40 then .subCfg40
  else if sc = 0x41 then .subCfg41
  else if sc = 0x48 then .subCfg48
  else .subUnk sc

/-- Decoding in the order of R71: the length is tested before any code is looked at. -/
def decode (c : Config) (F : List Byte) : Except Rejected Instr :=
  if F.length = 0 then .error (.shortFrame 0)
  else if byteAt F 0 = ridUsbCmd then
    if F.length < 2 then .error (.shortFrame F.length) else .ok (decodeHandshake (byteAt F 1))
  else if byteAt F 0 = c.ridFullOut then
    if F.length < 16 then .error (.shortFrame F.length)
    else .ok (decodeSubCommand (byteAt F 10) (byteAt F 11) (byteAt F 12) (byteAt F 13) (byteAt F 14) (byteAt F 15))
  else if c.ridIgnored.contains (byteAt F 0) then .ok (.ignore (byteAt F 0))
  else .ok (.rptUnk (byteAt F 0))

/-! ## The encoder -/

/-- The canonical frame of a handshake command: `80 cc` (R77). -/
def handshakeFrame (code : Byte) : List Byte := [ridUsbCmd, code]

/-- The canonical 16-byte frame of a sub-command, with inbound bytes 11 to 15 given (R62, R63, R77). -/
def fullOutFrame (c : Config) (sc b11 b12 b13 b14 b15 : Byte) : List Byte :=
  [c.ridFullOut, 0, 0, 0, 0, 0, 0, 0, 0, 0, sc, b11, b12, b13, b14, b15]

/-- The canonical frame of a command (R77). -/
def encode (c : Config) : Instr → List Byte
  | .hsInit => handshakeFrame 0x01
  | .hsBaud2 => handshakeFrame 0x02
  | .hsBaud3 => handshakeFrame 0x03
  | .hsRptOn => handshakeFrame 0x04
  | .hsRptOff => handshakeFrame 0x05
  | .hsUnk code => handshakeFrame code
  | .subPair => fullOutFrame c 0x01 0 0 0 0 0
  | .subDevinfo => fullOutFrame c 0x02 0 0 0 0 0
  | .subCfg03 => fullOutFrame c 0x03 0 0 0 0 0
  | .subTime => fullOutFrame c 0x04 0 0 0 0 0
  | .subCfg08 => fullOutFrame c 0x08 0 0 0 0 0
  | .subSpird off bank hdr13 hdr14 n => fullOutFrame c 0x10 off bank hdr13 hdr14 n
  | .subVib => fullOutFrame c 0x21 0 0 0 0 0
  | .subCfg30 => fullOutFrame c 0x30 0 0 0 0 0
  | .subCfg38 => fullOutFrame c 0x38 0 0 0 0 0
  | .subCfg40 => fullOutFrame c 0x40 0 0 0 0 0
  | .subCfg41 => fullOutFrame c 0x41 0 0 0 0 0
  | .subCfg48 => fullOutFrame c 0x48 0 0 0 0 0
  | .subUnk sc => fullOutFrame c sc 0 0 0 0 0
  | .ignore rid => [rid]
  | .rptUnk rid => [rid]

/-! ## The command table as rows of mask and match (R78) -/

/-- The mnemonic of a command, as the table spells it. -/
def Instr.mnemonic : Instr → String
  | .hsInit => "HS_INIT"
  | .hsBaud2 => "HS_BAUD2"
  | .hsBaud3 => "HS_BAUD3"
  | .hsRptOn => "HS_RPT_ON"
  | .hsRptOff => "HS_RPT_OFF"
  | .hsUnk _ => "HS_UNK"
  | .subPair => "SUB_PAIR"
  | .subDevinfo => "SUB_DEVINFO"
  | .subCfg03 => "SUB_CFG03"
  | .subTime => "SUB_TIME"
  | .subCfg08 => "SUB_CFG08"
  | .subSpird _ _ _ _ _ => "SUB_SPIRD"
  | .subVib => "SUB_VIB"
  | .subCfg30 => "SUB_CFG30"
  | .subCfg38 => "SUB_CFG38"
  | .subCfg40 => "SUB_CFG40"
  | .subCfg41 => "SUB_CFG41"
  | .subCfg48 => "SUB_CFG48"
  | .subUnk _ => "SUB_UNK"
  | .ignore _ => "IGNORE"
  | .rptUnk _ => "RPT_UNK"

/-- A row of the table. `mask` and `match` are given by their non-zero bytes: every `(i, b)` of `fixed` stands for
`mask[i] = 0xff`, `match[i] = b`, and no other byte is tested. -/
structure TableRow where
  mnemonic : String
  minLen : Nat
  fixed : List (Nat × Byte)
  catchAll : Bool
  excludeByte0 : List Byte
deriving DecidableEq, Repr

/-- The handshake row of one code (R72). -/
def handshakeRow (mnemonic : String) (code : Byte) : TableRow :=
  ⟨mnemonic, 2, [(0, 0x80), (1, code)], false, []⟩

/-- The sub-command row of one code (R73). -/
def subCommandRow (mnemonic : String) (sc : Byte) : TableRow :=
  ⟨mnemonic, 16, [(0, 0x01), (10, sc)], false, []⟩

/-- The rows of spec/opcode_table.json in its order, with the decided values of the parameters. -/
def opcodeTable : List TableRow :=
  [handshakeRow "HS_INIT" 0x01, handshakeRow "HS_BAUD2" 0x02, handshakeRow "HS_BAUD3" 0x03,
   handshakeRow "HS_RPT_ON" 0x04, handshakeRow "HS_RPT_OFF" 0x05, ⟨"HS_UNK", 2, [(0, 0x80)], true, []⟩]
  ++ [subCommandRow "SUB_PAIR" 0x01, subCommandRow "SUB_DEVINFO" 0x02, subCommandRow "SUB_CFG03" 0x03,
   subCommandRow "SUB_TIME" 0x04, subCommandRow "SUB_CFG08" 0x08, subCommandRow "SUB_SPIRD" 0x10,
   subCommandRow "SUB_VIB" 0x21, subCommandRow "SUB_CFG30" 0x30, subCommandRow "SUB_CFG38" 0x38,
   subCommandRow "SUB_CFG40" 0x40, subCommandRow "SUB_CFG41" 0x41, subCommandRow "SUB_CFG48" 0x48,
   ⟨"SUB_UNK", 16, [(0, 0x01)], true, []⟩]
  ++ [⟨"IGNORE", 1, [(0, 0x10)], false, []⟩, ⟨"RPT_UNK", 1, [], true, [0x80, 0x01, 0x10]⟩]

/-- "A frame F selects a row when `len(F) >= min_len` and `(F[i] & mask[i]) = match[i]` for every i", and its F[0] is
not excluded (R78). -/
def TableRow.selects (r : TableRow) (F : List Byte) : Bool :=
  decide (r.minLen ≤ F.length) && r.fixed.all (fun p => byteAt F p.1 == p.2) &&
    !r.excludeByte0.contains (byteAt F 0)

/-- The mnemonic of the row a frame selects: a catch-all row only when no other row is selected (R78). -/
def tableMnemonic (F : List Byte) : Option String :=
  match opcodeTable.find? (fun r => !r.catchAll && r.selects F) with
  | some r => some r.mnemonic
  | none => (opcodeTable.find? (fun r => r.catchAll && r.selects F)).map (·.mnemonic)

/-! ## Frames given as numbers -/

/-- The frame whose bits, bit 0 the least significant bit of byte 0, are the low `nbits` bits of `w`; zero bytes
follow, up to the 16 bytes the longest format reads (R62; log 23). -/
def frameOfWord (nbits w : Nat) : List Byte :=
  (List.range (max 16 ((nbits + 7) / 8))).map (fun i => BitVec.ofNat 8 (w % 2 ^ nbits / 256 ^ i))

/-- The command the decoder reads from the frame whose bits are `w`. -/
def decodeTableWord (nbits w : Nat) : Option Instr :=
  match decode Config.configured (frameOfWord nbits w) with
  | .ok i => some i
  | .error _ => none

end Sys2Proof
end

