-- ==== Sys2Proof/Machine/State.lean ====
section
/-! DEFINITION. The state of the block (R10 to R21), what stands at its ports (R26 to R34), the nine conditions (R200),
the reasons a step can stop, and the state at creation (R35). -/

namespace Sys2Proof.Machine

/-! ## The InputState register bank (R15) -/

/-- The four directional-pad counts (R16). DPAD_W, their width, is OPEN and no rule of the block depends on it:
a count is any natural number here, and `InputState.padsFit` says that it has DPAD_W bits (log 16). -/
structure Dpad where
  up : Nat
  down : Nat
  left : Nat
  right : Nat
deriving DecidableEq, Repr, Inhabited

/-- The twelve buttons, true when pressed (R17). -/
structure Buttons where
  a : Bool
  b : Bool
  x : Bool
  y : Bool
  l : Bool
  r : Bool
  zl : Bool
  zr : Bool
  home : Bool
  capture : Bool
  plus : Bool
  minus : Bool
deriving DecidableEq, Repr, Inhabited

/-- One stick: two exact rational axes of any magnitude (R19) and the press flag (R18). -/
structure Stick where
  x : Rat
  y : Rat
  press : Bool
deriving DecidableEq, Repr, Inhabited

/-- The 22 fields (R15). -/
structure InputState where
  dpad : Dpad
  button : Buttons
  stickLeft : Stick
  stickRight : Stick
deriving DecidableEq, Repr, Inhabited

/-- The directions of the pad. -/
inductive Dir where
  | up | down | left | right
deriving DecidableEq, Repr

/-- The buttons. -/
inductive Button where
  | a | b | x | y | l | r | zl | zr | home | capture | plus | minus
deriving DecidableEq, Repr

/-- The two sticks. -/
inductive Side where
  | left | right
deriving DecidableEq, Repr

/-- The names of the 22 fields (R15). -/
inductive InputField where
  | dpad (d : Dir)
  | button (which : Button)
  | stickX (s : Side)
  | stickY (s : Side)
  | stickPress (s : Side)
deriving DecidableEq, Repr

/-- INPUT_WRITE(field, value), with a value of the field's type (R196). -/
inductive InputWrite where
  | dpad (d : Dir) (count : Nat)
  | button (which : Button) (pressed : Bool)
  | stickX (s : Side) (axis : Rat)
  | stickY (s : Side) (axis : Rat)
  | stickPress (s : Side) (pressed : Bool)
deriving DecidableEq, Repr

/-! ## Events and conditions -/

/-- How the field reads of one snapshot interleave with the adjacent writes (R50): a listed field shows the value it
had after the first `k` of those writes to it; an unlisted field shows its value at the event's place in the run. -/
abbrev Tear := List (InputField × Nat)

/-- A value of a field: a pad count, a bit, or an axis (R15). -/
inductive FieldValue where
  | count (n : Nat)
  | bit (on : Bool)
  | axis (q : Rat)
deriving DecidableEq, Repr

/-- What an agent may offer (R26). -/
inductive Event where
  /-- The parser takes the next waiting frame (R170). -/
  | rx (tear : Tear)
  /-- One strobe of the counter timer (R174). -/
  | tickSeq
  /-- One strobe of the input-report timer (R175). -/
  | tickRpt (tear : Tear)
  /-- CONNECT(open_ok) from the owner (R190). -/
  | connect (openOk : Bool)
  /-- CLOSE from the owner (R192). -/
  | close
  /-- One field write of the input source (R196). -/
  | inputWrite (w : InputWrite)
deriving DecidableEq, Repr

/-- The nine conditions, a closed list (R200). -/
inductive Condition where
  /-- CalRead: unknown bank, or range out of bounds (R201). -/
  | notFound
  /-- RX: the frame is too short for its format (R173). -/
  | shortFrame (len : Nat)
  /-- RX: unknown report identifier (R172). -/
  | unknownReport (rid : Byte)
  /-- HS_UNK (R136). -/
  | unknownHandshake (code : Byte)
  /-- SUB_UNK (R154). -/
  | unknownSubcommand (sc : Byte)
  /-- SUB_SPIRD: an in-bounds read that does not fit the frame (R205). -/
  | frameOverflow
  /-- CONNECT while connected (R191). -/
  | alreadyConnected
  /-- CONNECT, and the transport did not open (R191). -/
  | deviceOpenFailed
  /-- CLOSE while not connected (R192). -/
  | notConnected
deriving DecidableEq, Repr

/-- The result of a lifecycle request that the owner gets: one of the three of CONNECT (R34), or NotConnected for a CLOSE
while not connected (R206), given only where the configuration has that reading (log 29). -/
inductive OwnerResult where
  | ok | alreadyConnected | deviceOpenFailed | notConnected
deriving DecidableEq, Repr

/-- The diagnostic events (R219); they are not architectural. -/
inductive Diag where
  | frameIn (F : List Byte)
  | frameOut (f : List Byte)
  | calHit (bank off n : Byte)
  | calMiss (bank off n : Byte)
  /-- UnknownReport, UnknownHandshake, UnknownSubcommand, ShortFrame, NotConnected. -/
  | raised (c : Condition)
deriving DecidableEq, Repr

/-- The modes, names for values of CONN and RPT_EN (R23). -/
inductive Mode where
  | disconnected | idle | reporting
deriving DecidableEq, Repr

/-! ## The state -/

/-- The state: the control elements, the register bank and the configuration with the calibration pages (R10), and
the model's own record of what stands outside the block at its ports (logs 1 to 4, 22). -/
structure State where
  /-- CONN (R11). -/
  conn : Bool
  /-- SEQ (R12). -/
  seq : BitVec 8
  /-- RPT_EN (R13). -/
  rptEn : Bool
  /-- FAULT, sticky (R14). -/
  fault : Bool
  /-- The InputState (R15). -/
  input : InputState
  /-- The configuration, CAL among it (R5, R21). -/
  cfg : Config
  /-- Frames waiting in the transport, in arrival order (R209). -/
  rx : List (List Byte)
  /-- The events the agents will offer, in order (R177). -/
  sched : List Event
  /-- The transmitted frames, oldest first: what the host sees (R34). -/
  tx : List (List Byte)
  /-- The results of lifecycle requests, oldest first: what the owner sees (R34, R206). -/
  owner : List OwnerResult
  /-- The diagnostic events, oldest first (R219). -/
  diag : List Diag
  /-- The InputState as sampled during the current event (R9, R50). -/
  sampled : InputState
  /-- The InputState before the current run of adjacent INPUT_WRITE events (R50). -/
  runStart : InputState
  /-- The writes of that run, oldest first (R50). -/
  runWrites : List InputWrite
deriving DecidableEq, Repr

/-- The reasons the block stops with a fault: none. No condition stops it (R200, R211), and FrameOverflow, the one
condition the spec treats as a fault of the run, sets FAULT and goes on (R205; log 17). Nobody raises one. -/
inductive Fault where
deriving DecidableEq, Repr

/-- The reasons the model has no step. -/
inductive Refusal where
  /-- Raised by an arm of `exec` whose command has no meaning yet; no arm raises it. Safe: the run stops. -/
  | notModelled (mnemonic : String)
  /-- Raised by `create` for a configuration outside its constraints (R5). Safe: no block is built. -/
  | configurationRefused
deriving DecidableEq, Repr

/-- A bank of which nothing is known (R20, R231; log 5). -/
opaque openInput : InputState

/-- The InputState at creation, which no source states (R20, R231): no value is assumed, but that a pad count has
DPAD_W bits (log 5). -/
def inputAtCreation : InputState :=
  { openInput with
    dpad :=
      { up := openInput.dpad.up % 2 ^ Config.configured.dpadW
        down := openInput.dpad.down % 2 ^ Config.configured.dpadW
        left := openInput.dpad.left % 2 ^ Config.configured.dpadW
        right := openInput.dpad.right % 2 ^ Config.configured.dpadW } }

/-- The state at creation (R35), for a configuration and the values creation leaves unspecified. -/
def State.creation (c : Config) (input : InputState) (seq : BitVec 8) : State where
  conn := false
  seq := seq
  rptEn := false
  fault := false
  input := input
  cfg := c
  rx := []
  sched := []
  tx := []
  owner := []
  diag := []
  sampled := input
  runStart := input
  runWrites := []

/-- The block right after creation, the first of its two resets (R35, R230). -/
def State.reset : State := State.creation Config.configured inputAtCreation Config.seqAtCreation

end Sys2Proof.Machine
end

