-- ==== Sys2Proof/Machine/Calibration.lean ====
section
/-! DEFINITION. The calibration store (R120 to R124), and the calibration space as memory cells (R40, R41). -/

namespace Sys2Proof.Machine

/-- CAL: the page of a bank; its domain is exactly the two known banks (R21, R121). -/
def calPage (c : Config) (bank : Byte) : Option (List Byte) :=
  if bank = calBankA then some c.calA else if bank = c.calBankB then some c.calB else none

/-- CalRead(bank, off, n) (R120): the bank test first, then the bounds test on naturals, no wrap (R122). -/
def calRead (c : Config) (bank off n : Byte) : Except Condition (List Byte) :=
  match calPage c bank with
  | none => .error .notFound
  | some page =>
    if off.toNat + n.toNat ≤ page.length then .ok ((page.drop off.toNat).take n.toNat) else .error .notFound

/-! ## The calibration space as cells -/

/-- A memory: cells at strictly rising addresses. A byte no cell lists has no value (R120, NotFound). -/
abbrev Memory := List Host.Cell

/-- The canonical form: addresses strictly rising. -/
def Memory.wf : Memory → Bool
  | [] => true
  | [_] => true
  | a :: b :: rest => decide (a.1 < b.1) && Memory.wf (b :: rest)

/-- The byte at an address, none where there is none. -/
def Memory.byte (m : Memory) (addr : Nat) : Option Byte := m.lookup addr

/-- The address of (bank, offset) in the calibration space (R40). -/
def calAddress (bank : Byte) (off : Nat) : Nat := bank.toNat * 256 + off

/-- The cells of one page. -/
def pageCells (bank : Byte) (page : List Byte) : Memory :=
  page.zipIdx.map (fun p => (calAddress bank p.2, p.1))

/-- The whole calibration space of a configuration as cells (R41), the page of the lower bank first. -/
def calMemory (c : Config) : Memory :=
  if calBankA.toNat < c.calBankB.toNat then pageCells calBankA c.calA ++ pageCells c.calBankB c.calB
  else pageCells c.calBankB c.calB ++ pageCells calBankA c.calA

/-- One byte of the calibration space of a state. -/
def State.calByte (s : State) (bank : Byte) (off : Nat) : Option Byte := (calPage s.cfg bank).bind (·[off]?)

end Sys2Proof.Machine
end

