-- ==== Sys2Proof/Machine/Flags.lean ====
section
/-! DEFINITION. The flag bytes of outbound frames: the three button-group bytes (R100 to R102) and the ack byte (R69). -/

namespace Sys2Proof.Machine

/-- One bit of a group byte: `on << i`. -/
def flagBit (on : Bool) (i : Nat) : Byte := if on then 1#8 <<< i else 0#8

/-- `nz(c)`: a direction is pressed exactly when its count is not 0 (R16, D6; log 16). -/
def nz (count : Nat) : Bool := count != 0

/-- Group byte "left"; bits 4 and 5 are 0 (R100). -/
def groupLeft (i : InputState) : Byte :=
  flagBit i.button.y 0 ||| flagBit i.button.x 1 ||| flagBit i.button.b 2 ||| flagBit i.button.a 3
    ||| flagBit i.button.r 6 ||| flagBit i.button.zr 7

/-- Group byte "center"; bits 6 and 7 are 0 (R101). -/
def groupCenter (i : InputState) : Byte :=
  flagBit i.button.minus 0 ||| flagBit i.button.plus 1 ||| flagBit i.stickRight.press 2
    ||| flagBit i.stickLeft.press 3 ||| flagBit i.button.home 4 ||| flagBit i.button.capture 5

/-- Group byte "right"; bits 4 and 5 are 0 (R102). -/
def groupRight (i : InputState) : Byte :=
  flagBit (nz i.dpad.down) 0 ||| flagBit (nz i.dpad.up) 1 ||| flagBit (nz i.dpad.right) 2
    ||| flagBit (nz i.dpad.left) 3 ||| flagBit i.button.l 6 ||| flagBit i.button.zl 7

/-- ACK_NONE (R5). -/
def ackNone : Byte := 0x00
/-- ACK_BASE (R5). -/
def ackBase : Byte := 0x80

/-- The ack byte, from whether the reply is acknowledged, the sub-command code and the length of the data (R69). -/
def ackByte (acked : Bool) (sc : Byte) (d : Nat) : Byte :=
  if !acked then ackNone else if d = 0 then ackBase else ackBase ||| sc

end Sys2Proof.Machine
end

