-- ==== Sys2Proof/Machine/Operands.lean ====
section
/-! DEFINITION. Operand assembly (R70): quantising an axis (R103 to R105), packing two 12-bit values (R106, R107), the
echoed address header (R63), and the fields of the InputState with their torn reads (R31, R50, R196). -/

namespace Sys2Proof.Machine

/-! ## Quantisation -/

/-- STICK_SCALE (R5). -/
def stickScale : Rat := 2048
/-- STICK_MAX (R5). -/
def stickMax : Int := 4095

/-- `clamp(v, lo, hi)` (R8). -/
def clamp (v lo hi : Int) : Int := if v < lo then lo else if hi < v then hi else v

/-- `round(q)`: the nearest integer, a tie going away from zero (R105). -/
def roundAway (q : Rat) : Int := if 0 ≤ q then (q + 1 / 2).floor else -(-q + 1 / 2).floor

/-- `raw(a) = round((1 + a) * 2048)` (R103). -/
def rawAxis (a : Rat) : Int := roundAway ((1 + a) * stickScale)

/-- `quantize(a) = clamp(raw(a), 0, 4095)` (R104). -/
def quantize (a : Rat) : Nat := (clamp (rawAxis a) 0 stickMax).toNat

/-! ## Packing -/

/-- The bit slice `x[hi:lo]` (R6). -/
def slice (x hi lo : Nat) : Nat := x / 2 ^ lo % 2 ^ (hi - lo + 1)

/-- `pack_12bit_pair` (R106): bits of either value above bit 11 are not used. -/
def pack12 (a b : Nat) : List Byte :=
  [BitVec.ofNat 8 (slice a 7 0),
   BitVec.ofNat 8 (slice b 3 0 <<< 4 ||| slice a 11 8),
   BitVec.ofNat 8 (slice b 11 4)]

/-- `unpack_12bit_pair`, the inverse (R107). -/
def unpack12 (p0 p1 p2 : Byte) : Nat × Nat :=
  (p0.toNat ||| (p1.toNat &&& 0x0f) <<< 8, p1.toNat >>> 4 ||| p2.toNat <<< 4)

/-- The 5-byte address header of SUB_SPIRD, echoed as received (R63). -/
def addressHeader (off bank hdr13 hdr14 n : Byte) : List Byte := [off, bank, hdr13, hdr14, n]

/-! ## InputState fields -/

/-- The pad with one count replaced. -/
def Dpad.set (p : Dpad) (d : Dir) (v : Nat) : Dpad :=
  match d with
  | .up => { p with up := v }
  | .down => { p with down := v }
  | .left => { p with left := v }
  | .right => { p with right := v }

/-- The buttons with one of them replaced. -/
def Buttons.set (p : Buttons) (which : Button) (v : Bool) : Buttons :=
  match which with
  | .a => { p with a := v }
  | .b => { p with b := v }
  | .x => { p with x := v }
  | .y => { p with y := v }
  | .l => { p with l := v }
  | .r => { p with r := v }
  | .zl => { p with zl := v }
  | .zr => { p with zr := v }
  | .home => { p with home := v }
  | .capture => { p with capture := v }
  | .plus => { p with plus := v }
  | .minus => { p with minus := v }

/-- The bank with one stick changed. -/
def InputState.modifyStick (i : InputState) (s : Side) (f : Stick → Stick) : InputState :=
  match s with
  | .left => { i with stickLeft := f i.stickLeft }
  | .right => { i with stickRight := f i.stickRight }

/-- `IN.f <- v`, with no range check (R196). -/
def InputState.write (i : InputState) (w : InputWrite) : InputState :=
  match w with
  | .dpad d v => { i with dpad := i.dpad.set d v }
  | .button which v => { i with button := i.button.set which v }
  | .stickX s v => i.modifyStick s (fun t => { t with x := v })
  | .stickY s v => i.modifyStick s (fun t => { t with y := v })
  | .stickPress s v => i.modifyStick s (fun t => { t with press := v })

/-- The bank after a run of writes, oldest first. -/
def InputState.writeAll (i : InputState) (ws : List InputWrite) : InputState := ws.foldl InputState.write i

/-- The field a write names. -/
def InputWrite.field : InputWrite → InputField
  | .dpad d _ => .dpad d
  | .button which _ => .button which
  | .stickX s _ => .stickX s
  | .stickY s _ => .stickY s
  | .stickPress s _ => .stickPress s

/-- The value a write gives its field. -/
def InputWrite.value : InputWrite → FieldValue
  | .dpad _ v => .count v
  | .button _ v => .bit v
  | .stickX _ v => .axis v
  | .stickY _ v => .axis v
  | .stickPress _ v => .bit v

/-- The stick of a side. -/
def InputState.stick (i : InputState) : Side → Stick
  | .left => i.stickLeft
  | .right => i.stickRight

/-- The value of one field, `IN.<field>` (R9, R15). -/
def InputState.get (i : InputState) : InputField → FieldValue
  | .dpad .up => .count i.dpad.up
  | .dpad .down => .count i.dpad.down
  | .dpad .left => .count i.dpad.left
  | .dpad .right => .count i.dpad.right
  | .button .a => .bit i.button.a
  | .button .b => .bit i.button.b
  | .button .x => .bit i.button.x
  | .button .y => .bit i.button.y
  | .button .l => .bit i.button.l
  | .button .r => .bit i.button.r
  | .button .zl => .bit i.button.zl
  | .button .zr => .bit i.button.zr
  | .button .home => .bit i.button.home
  | .button .capture => .bit i.button.capture
  | .button .plus => .bit i.button.plus
  | .button .minus => .bit i.button.minus
  | .stickX s => .axis (i.stick s).x
  | .stickY s => .axis (i.stick s).y
  | .stickPress s => .bit (i.stick s).press

/-- The bank in which a torn read finds one field (R50): the bank `cur` at the event's place when the field is not
listed, else `base`, the bank before the adjacent writes `ws`, after the first `k` of them to that field. -/
def fieldView (t : Tear) (base : InputState) (ws : List InputWrite) (cur : InputState) (f : InputField) :
    InputState :=
  match t.lookup f with
  | none => cur
  | some k => base.writeAll ((ws.filter (fun w => w.field == f)).take k)

/-- The InputState as sampled by 22 separate field reads (R31, R50). -/
def sampleInput (t : Tear) (base : InputState) (ws : List InputWrite) (cur : InputState) : InputState :=
  let v := fieldView t base ws cur
  { dpad :=
      { up := (v (.dpad .up)).dpad.up
        down := (v (.dpad .down)).dpad.down
        left := (v (.dpad .left)).dpad.left
        right := (v (.dpad .right)).dpad.right }
    button :=
      { a := (v (.button .a)).button.a
        b := (v (.button .b)).button.b
        x := (v (.button .x)).button.x
        y := (v (.button .y)).button.y
        l := (v (.button .l)).button.l
        r := (v (.button .r)).button.r
        zl := (v (.button .zl)).button.zl
        zr := (v (.button .zr)).button.zr
        home := (v (.button .home)).button.home
        capture := (v (.button .capture)).button.capture
        plus := (v (.button .plus)).button.plus
        minus := (v (.button .minus)).button.minus }
    stickLeft :=
      { x := (v (.stickX .left)).stickLeft.x
        y := (v (.stickY .left)).stickLeft.y
        press := (v (.stickPress .left)).stickLeft.press }
    stickRight :=
      { x := (v (.stickX .right)).stickRight.x
        y := (v (.stickY .right)).stickRight.y
        press := (v (.stickPress .right)).stickRight.press } }

end Sys2Proof.Machine
end

