-- ==== Sys2Proof/Machine/Codec.lean ====
section
/-! DEFINITION. The snapshot (R109) and the 64-byte frame (R110, R111). -/

namespace Sys2Proof.Machine

/-- FRAME_LEN (R5). -/
def frameLen : Nat := 64
/-- PAYLOAD_MAX (R5). -/
def payloadMax : Nat := 62
/-- RID_HS_REPLY (R5). -/
def ridHsReply : Byte := 0x81
/-- RID_SUB_REPLY (R5). -/
def ridSubReply : Byte := 0x21
/-- RID_INPUT (R5). -/
def ridInput : Byte := 0x30

/-- `snapshot()`, 11 bytes, of the sampled InputState: SNAP_HDR first (log 11), the left stick before the right
(log 12), X before Y (R108, R109). -/
def snapshot (c : Config) (i : InputState) : List Byte :=
  [c.snapHdr, groupLeft i, groupCenter i, groupRight i]
    ++ pack12 (quantize i.stickLeft.x) (quantize i.stickLeft.y)
    ++ pack12 (quantize i.stickRight.x) (quantize i.stickRight.y)
    ++ [0x00]

/-- `frame(id, b1, payload)` (R110): no result for a payload of more than 62 bytes, never a padded or truncated one
(R111). -/
def frame (id b1 : Byte) (payload : List Byte) : Option (List Byte) :=
  if payload.length ≤ payloadMax then some ([id, b1] ++ payload ++ zeros (payloadMax - payload.length)) else none

end Sys2Proof.Machine
end

