-- ==== Sys2Proof/Machine/Ops.lean ====
section
/-! DEFINITION. The shared operations: transmitting a frame (R28), raising a condition (R200), the two reply builders
(R66, R141), diagnostics (R219), and the mode (R23). A condition saves nothing and transfers control nowhere, so
there is no return from one (R211, R212). -/

namespace Sys2Proof.Machine

/-- A diagnostic event is recorded; nothing reads it (R32, R219). -/
def State.record (s : State) (d : Diag) : State := { s with diag := s.diag ++ [d] }

/-- The owner gets the result of a lifecycle request (R34, R206). -/
def State.answerOwner (s : State) (r : OwnerResult) : State := { s with owner := s.owner ++ [r] }

/-- NotConnected: a diagnostic, as R192 and its row in R200 say; where the configuration has R206's reading the owner gets
it as the result of the request as well (DESIGN CHOICE, log 29). -/
def raiseNotConnected (s : State) : State :=
  if s.cfg.notConnectedToOwner then (s.record (.raised .notConnected)).answerOwner .notConnected
  else s.record (.raised .notConnected)

/-- `raise X`: the whole effect of a condition is its row in R200; of NotConnected, see `raiseNotConnected`. -/
def raise (c : Condition) (s : State) : State :=
  match c with
  | .notFound => s
  | .shortFrame len => s.record (.raised (.shortFrame len))
  | .unknownReport rid => s.record (.raised (.unknownReport rid))
  | .unknownHandshake code => s.record (.raised (.unknownHandshake code))
  | .unknownSubcommand sc => s.record (.raised (.unknownSubcommand sc))
  | .frameOverflow => { s with fault := true }
  | .alreadyConnected => s.answerOwner .alreadyConnected
  | .deviceOpenFailed => s.answerOwner .deviceOpenFailed
  | .notConnected => raiseNotConnected s

/-- `TX(f)`, one indivisible event (R28). O81 and O21 frames have a FrameOut diagnostic, O30 frames none (R219). -/
def State.transmit (s : State) (id : Byte) (f : List Byte) : State :=
  { s with tx := s.tx ++ [f], diag := if id = ridInput then s.diag else s.diag ++ [.frameOut f] }

/-- `TX(frame(id, b1, payload))`; a payload `frame` rejects is FrameOverflow and no frame (R111, R205). -/
def send (id b1 : Byte) (payload : List Byte) (s : State) : State :=
  match frame id b1 payload with
  | some f => s.transmit id f
  | none => raise .frameOverflow s

/-- A handshake reply, format O81: byte 1 echoes the code (R66). -/
def hsReply (code : Byte) (payload : List Byte) (s : State) : State := send ridHsReply code payload s

/-- The optional echo that ends HS_RPT_ON and HS_RPT_OFF when P_ECHO_EN is true (R138). -/
def echoCommand (code : Byte) (s : State) : State := if s.cfg.pEchoEn then hsReply code [] s else s

/-- `sub_reply(acked, sc, data)`, format O21 (R67, R141): SEQ is read once, the InputState as sampled. -/
def subReply (acked : Bool) (sc : Byte) (data : List Byte) (s : State) : State :=
  send ridSubReply s.seq (snapshot s.cfg s.sampled ++ [ackByte acked sc data.length, sc] ++ data) s

/-- The mode (R23); the combination CONN = 0, RPT_EN = 1 has none. -/
def State.mode (s : State) : Option Mode :=
  match s.conn, s.rptEn with
  | false, false => some .disconnected
  | true, false => some .idle
  | true, true => some .reporting
  | false, true => none

/-- The level of a diagnostic event in the source's log sink; none where the spec gives none (R219). -/
def Diag.level : Diag → Option Nat
  | .frameIn _ => some 1
  | .frameOut _ => some 1
  | .calHit _ _ _ => some 2
  | .calMiss _ _ _ => some 2
  | .raised (.unknownReport _) => some 2
  | .raised (.unknownHandshake _) => some 2
  | .raised (.unknownSubcommand _) => some 2
  | .raised _ => none

end Sys2Proof.Machine
end

