-- ==== Sys2Proof/Machine/Handshake.lean ====
section
/-! DEFINITION. The handshake commands (R130 to R138). None reads SEQ, the InputState or CAL. -/

namespace Sys2Proof.Machine

/-- HS_IDENT (R5, R131). -/
def hsIdent : List Byte := [0x00, 0x03, 0x00, 0x00, 0x5e, 0x00, 0x53, 0x5e]

/-- HS_INIT (R131). -/
def execHsInit (s : State) : Host.Outcome State Fault Refusal := .next (hsReply 0x01 hsIdent s)

/-- HS_BAUD2 (R132): no baud rate is stored or changed. -/
def execHsBaud2 (s : State) : Host.Outcome State Fault Refusal := .next (hsReply 0x02 [] s)

/-- HS_BAUD3 (R133). -/
def execHsBaud3 (s : State) : Host.Outcome State Fault Refusal := .next (hsReply 0x03 [] s)

/-- HS_RPT_ON (R134): RPT_EN <- 1, idempotent; the echo is R138's. -/
def execHsRptOn (s : State) : Host.Outcome State Fault Refusal := .next (echoCommand 0x04 { s with rptEn := true })

/-- HS_RPT_OFF (R135): RPT_EN <- 0; the echo is R138's. -/
def execHsRptOff (s : State) : Host.Outcome State Fault Refusal := .next (echoCommand 0x05 { s with rptEn := false })

/-- HS_UNK (R136): diagnostic only. -/
def execHsUnk (code : Byte) (s : State) : Host.Outcome State Fault Refusal := .next (raise (.unknownHandshake code) s)

end Sys2Proof.Machine
end

