-- ==== Sys2Proof/Machine/Report.lean ====
section
/-! DEFINITION. Frames of neither command format: the ignored reports (R171) and the unknown identifiers (R172). -/

namespace Sys2Proof.Machine

/-- IGNORE (R171): no frame, no diagnostic, no state. -/
def execIgnore (_rid : Byte) (s : State) : Host.Outcome State Fault Refusal := .next s

/-- RPT_UNK (R172): diagnostic only. -/
def execRptUnk (rid : Byte) (s : State) : Host.Outcome State Fault Refusal := .next (raise (.unknownReport rid) s)

end Sys2Proof.Machine
end

