-- ==== Sys2Proof/Machine/Subcommand.lean ====
section
/-! DEFINITION. The sub-commands (R140 to R156). -/

namespace Sys2Proof.Machine

/-- SUB_DATA_MAX (R5). -/
def subDataMax : Nat := 49

/-- SUB_PAIR (R142). -/
def execSubPair (s : State) : Host.Outcome State Fault Refusal :=
  .next (subReply true 0x01 s.cfg.sub01Reply.toList s)

/-- SUB_DEVINFO (R143). -/
def execSubDevinfo (s : State) : Host.Outcome State Fault Refusal :=
  .next (subReply true 0x02 s.cfg.sub02Reply.toList s)

/-- SUB_CFG03 (R144): accepted, nothing stored. -/
def execSubCfg03 (s : State) : Host.Outcome State Fault Refusal := .next (subReply true 0x03 [] s)

/-- SUB_TIME (R151): acknowledged; no elapsed time is returned. -/
def execSubTime (s : State) : Host.Outcome State Fault Refusal := .next (subReply true 0x04 [] s)

/-- SUB_CFG08 (R145). -/
def execSubCfg08 (s : State) : Host.Outcome State Fault Refusal := .next (subReply true 0x08 [] s)

/-- SUB_SPIRD (R152): bank, then bounds, then capacity (R208). NotFound is a NACK with no data; an in-bounds read that
does not fit raises FrameOverflow and sends nothing (R205). The diagnostics are R219's. -/
def execSubSpird (off bank hdr13 hdr14 n : Byte) (s : State) : Host.Outcome State Fault Refusal :=
  match calRead s.cfg bank off n with
  | .error _ => .next (subReply false 0x10 [] (s.record (.calMiss bank off n)))
  | .ok bytes =>
    if 5 + n.toNat ≤ subDataMax then
      .next (subReply true 0x10 (addressHeader off bank hdr13 hdr14 n ++ bytes) (s.record (.calHit bank off n)))
    else .next (raise .frameOverflow (s.record (.calHit bank off n)))

/-- SUB_VIB (R153): always acknowledged, whatever the request. -/
def execSubVib (s : State) : Host.Outcome State Fault Refusal :=
  .next (subReply true 0x21 s.cfg.sub21Reply.toList s)

/-- SUB_CFG30 (R146). -/
def execSubCfg30 (s : State) : Host.Outcome State Fault Refusal := .next (subReply true 0x30 [] s)

/-- SUB_CFG38 (R147). -/
def execSubCfg38 (s : State) : Host.Outcome State Fault Refusal := .next (subReply true 0x38 [] s)

/-- SUB_CFG40 (R148). -/
def execSubCfg40 (s : State) : Host.Outcome State Fault Refusal := .next (subReply true 0x40 [] s)

/-- SUB_CFG41 (R149). -/
def execSubCfg41 (s : State) : Host.Outcome State Fault Refusal := .next (subReply true 0x41 [] s)

/-- SUB_CFG48 (R150). -/
def execSubCfg48 (s : State) : Host.Outcome State Fault Refusal := .next (subReply true 0x48 [] s)

/-- SUB_UNK (R154): diagnostic only, no NACK. -/
def execSubUnk (sc : Byte) (s : State) : Host.Outcome State Fault Refusal := .next (raise (.unknownSubcommand sc) s)

end Sys2Proof.Machine
end

