-- ==== Sys2Proof/Machine/Dispatch.lean ====
section
/-! DEFINITION. One arm per command (R72, R73, R78). -/

namespace Sys2Proof.Machine

def exec (i : Instr) (s : State) : Host.Outcome State Fault Refusal :=
  match i with
  | .hsInit => Sys2Proof.Machine.execHsInit s
  | .hsBaud2 => Sys2Proof.Machine.execHsBaud2 s
  | .hsBaud3 => Sys2Proof.Machine.execHsBaud3 s
  | .hsRptOn => Sys2Proof.Machine.execHsRptOn s
  | .hsRptOff => Sys2Proof.Machine.execHsRptOff s
  | .hsUnk code => Sys2Proof.Machine.execHsUnk code s
  | .subPair => Sys2Proof.Machine.execSubPair s
  | .subDevinfo => Sys2Proof.Machine.execSubDevinfo s
  | .subCfg03 => Sys2Proof.Machine.execSubCfg03 s
  | .subTime => Sys2Proof.Machine.execSubTime s
  | .subCfg08 => Sys2Proof.Machine.execSubCfg08 s
  | .subSpird off bank hdr13 hdr14 n => Sys2Proof.Machine.execSubSpird off bank hdr13 hdr14 n s
  | .subVib => Sys2Proof.Machine.execSubVib s
  | .subCfg30 => Sys2Proof.Machine.execSubCfg30 s
  | .subCfg38 => Sys2Proof.Machine.execSubCfg38 s
  | .subCfg40 => Sys2Proof.Machine.execSubCfg40 s
  | .subCfg41 => Sys2Proof.Machine.execSubCfg41 s
  | .subCfg48 => Sys2Proof.Machine.execSubCfg48 s
  | .subUnk sc => Sys2Proof.Machine.execSubUnk sc s
  | .ignore rid => Sys2Proof.Machine.execIgnore rid s
  | .rptUnk rid => Sys2Proof.Machine.execRptUnk rid s

end Sys2Proof.Machine
end

