-- ==== Sys2Proof/Machine/Lifecycle.lean ====
section
/-! DEFINITION. Creation with its configuration (R5, R194, R232), CONNECT and CLOSE (R190 to R193), and INPUT_WRITE
(R196). -/

namespace Sys2Proof.Machine

/-- "The owner creates the block with its configuration" (R232); a configuration outside its constraints is refused
(R5; log 26). -/
def create (c : Config) (input : InputState) (seq : BitVec 8) : Host.Outcome State Fault Refusal :=
  if c.wf then .next (State.creation c input seq) else .refused .configurationRefused

/-- CONNECT(open_ok) (R190): AlreadyConnected is tested first (R191); FAULT, the InputState and CAL are untouched. -/
def connect (openOk : Bool) (s : State) : State :=
  if s.conn then raise .alreadyConnected s
  else if !openOk then raise .deviceOpenFailed s
  else { s with seq := 0, rptEn := false, conn := true }.answerOwner .ok

/-- CLOSE (R192): SEQ and FAULT keep their values; idempotent. While not connected nothing but NotConnected
(R206; log 29). -/
def close (s : State) : State :=
  if !s.conn then raise .notConnected s else { s with rptEn := false, conn := false }

/-- INPUT_WRITE(field, value) (R196), in every mode; the write joins the current run of adjacent writes (R50). -/
def inputWrite (w : InputWrite) (s : State) : State :=
  { s with input := s.input.write w, runWrites := s.runWrites ++ [w] }

end Sys2Proof.Machine
end

