-- ==== Sys2Proof/Machine/Scheduler.lean ====
section
/-! DEFINITION. The scheduler's events (R170 to R179): which offered events occur, routing an inbound frame, the two
ticks, and the sampling of the InputState around them (R50). -/

namespace Sys2Proof.Machine

/-- Whether an offered event occurs (R23, R209): with CONN = 0 ticks are lost and no frame is consumed (R11), and with
no frame waiting the read loop blocks (R27). -/
def eventOccurs (s : State) : Event → Bool
  | .rx _ => s.conn && !s.rx.isEmpty
  | .tickSeq => s.conn
  | .tickRpt _ => s.conn
  | .connect _ => true
  | .close => true
  | .inputWrite _ => true

/-- The INPUT_WRITE events that stand next to the current event, after it (R50). A read-loop turn that finds no frame
waiting is no event and does not stand between. -/
def writesNext (rxEmpty : Bool) : List Event → List InputWrite
  | .inputWrite w :: es => w :: writesNext rxEmpty es
  | .rx _ :: es => if rxEmpty then writesNext rxEmpty es else []
  | _ => []

/-- An event other than an INPUT_WRITE ends the run of adjacent writes (R50). -/
def State.closeRun (s : State) : State := { s with runStart := s.input, runWrites := [] }

/-- The field reads of the snapshot of the current event (R31, R50), and the end of the run of writes before it. -/
def State.beginSnapshot (t : Tear) (s : State) : State :=
  { s with
    sampled := sampleInput t s.runStart (s.runWrites ++ writesNext s.rx.isEmpty s.sched) s.input }.closeRun

/-- TICK_SEQ (R174): SEQ <- (SEQ + 1) mod 256 while connected. -/
def tickSeq (s : State) : State := if s.conn then { s with seq := s.seq + 1 } else s

/-- TICK_RPT (R175): an O30 frame while connected and enabled (R68). -/
def tickRpt (s : State) : State :=
  if s.conn && s.rptEn then send ridInput s.seq (snapshot s.cfg s.sampled) s else s

/-- RX(F) (R170): the frame is decoded and its command runs; a short frame is dropped whole (R173). -/
def receive (F : List Byte) (s : State) : Host.Outcome State Fault Refusal :=
  match decode s.cfg F with
  | .ok i => exec i (s.record (.frameIn F))
  | .error (.shortFrame len) => .next (raise (.shortFrame len) (s.record (.frameIn F)))

/-- One event that occurs, as one indivisible step (R33). -/
def perform (e : Event) (s : State) : Host.Outcome State Fault Refusal :=
  match e with
  | .rx t =>
    match s.rx with
    | [] => .next s
    | F :: rest => receive F ({ s with rx := rest }.beginSnapshot t)
  | .tickSeq => .next (tickSeq s.closeRun)
  | .tickRpt t => .next (tickRpt (s.beginSnapshot t))
  | .connect openOk => .next (connect openOk s.closeRun)
  | .close => .next (close s.closeRun)
  | .inputWrite w => .next (inputWrite w s)

end Sys2Proof.Machine
end

