-- ==== Sys2Proof/Machine/Step.lean ====
section
/-! DEFINITION. One step: the next offered event (R33, R177; log 1), and the placing of a frame as the next event
(log 23). -/

namespace Sys2Proof.Machine

/-- The next offered event happens, or, where it cannot occur, is passed over with no effect. With nothing offered
the block does not change (R33, R36). -/
def step (s : State) : Host.Outcome State Fault Refusal :=
  match s.sched with
  | [] => .next s
  | e :: es => if eventOccurs s e then perform e { s with sched := es } else .next { s with sched := es }

/-- The state in which the very next event is the arrival of the frame whose bits are `w`, with the port open
(CONN = 1, R27). -/
def State.withFetchWord (s : State) (nbits w : Nat) : State :=
  { s with conn := true, rx := frameOfWord nbits w :: s.rx, sched := .rx [] :: s.sched }

end Sys2Proof.Machine
end

