-- ==== Sys2Proof/Safety.lean ====
section
/-! DEFINITION. What claims are stated in: a clean run (R197), runs of a schedule, the outbound formats (R65 to R68), the
invariant every step keeps, and the promises of the outside agents (R36). -/

namespace Sys2Proof.Machine

/-- FAULT = 0 (R197). -/
def State.clean (s : State) : Bool := !s.fault

/-- The run of a script: its events one after another from a state (R77, R197). -/
def runScript (es : List Event) (s : State) : Host.Outcome State Fault Refusal :=
  Sys2Proof.core.run es.length { s with sched := es }

/-- A run is clean when it ends with FAULT = 0 (R197). -/
def cleanRun (es : List Event) (s : State) : Bool :=
  match runScript es s with
  | .next t => t.clean
  | .fault _ => false
  | .refused _ => false

/-- The state after transmitting an O81 or O21 frame: the trace grows by it, and the FrameOut diagnostic (R34, R219). -/
def State.sent (s : State) (f : List Byte) : State :=
  { s with tx := s.tx ++ [f], diag := s.diag ++ [.frameOut f] }

/-- The O21 frame of a state with a given ack byte, byte by byte (R67). -/
def replyFrame (s : State) (ack sc : Byte) (data : List Byte) : List Byte :=
  [0x21, s.seq] ++ snapshot s.cfg s.sampled ++ [ack, sc] ++ data ++ zeros (49 - data.length)

/-- Every full output report of at least 16 bytes with `sc` at byte 10 decodes to `i` (R62, R73, R140). -/
def SelectsSub (sc : Byte) (i : Instr) : Prop :=
  ∀ (c : Config) (F : List Byte), c.idsOk = true → 16 ≤ F.length → byteAt F 0 = c.ridFullOut → byteAt F 10 = sc →
    decode c F = .ok i

/-- Every frame of at least 2 bytes that begins `80 cc` decodes to `i` (R61, R72, R130). -/
def SelectsHandshake (code : Byte) (i : Instr) : Prop :=
  ∀ (c : Config) (rest : List Byte), decode c (0x80 :: code :: rest) = .ok i

/-- Bytes 2 to 12 of an O21 or O30 frame have the shape of a snapshot: SNAP_HDR, the unused bits of the group bytes 0
(R100 to R102), the last byte 0 (R109). The place of SNAP_HDR is decision D4 (log 11). -/
def hasSnapshotShape (c : Config) (f : List Byte) : Bool :=
  byteAt f 2 == c.snapHdr && byteAt f 3 &&& 0x30 == 0 && byteAt f 4 &&& 0xc0 == 0 && byteAt f 5 &&& 0x30 == 0
    && byteAt f 12 == 0

/-- Format O81 (R66): after the reply payload of a code, zeros. -/
def isO81 (f : List Byte) : Bool :=
  byteAt f 0 == 0x81 && (f.drop 2 == hsIdent ++ zeros 54 && byteAt f 1 == 0x01
    || f.drop 2 == zeros 62 && [0x02, 0x03, 0x04, 0x05].contains (byteAt f 1))

/-- Format O21 (R67), with the ack byte 0x00, 0x80, or 0x80 with the code (R69). -/
def isO21 (c : Config) (f : List Byte) : Bool :=
  byteAt f 0 == 0x21 && hasSnapshotShape c f && subCommandCodes.contains (byteAt f 14)
    && [0x00, 0x80, 0x80 ||| byteAt f 14].contains (byteAt f 13)

/-- Format O30 (R68): zeros after the snapshot. -/
def isO30 (c : Config) (f : List Byte) : Bool :=
  byteAt f 0 == 0x30 && hasSnapshotShape c f && f.drop 13 == zeros 51

/-- "There are three outbound formats ... and the block never sends anything else" (R65), all of 64 bytes. -/
def isOutbound (c : Config) (f : List Byte) : Bool :=
  f.length == frameLen && (isO81 f || isO21 c f || isO30 c f)

/-- What every step keeps. -/
structure Inv (s : State) : Prop where
  /-- The configuration meets its constraints (R5). -/
  cfgWf : s.cfg.wf = true
  /-- "The combination CONN = 0, RPT_EN = 1 is unreachable" (R23). -/
  mode : s.mode ≠ none
  /-- Every transmitted frame has one of the three formats (R65). -/
  frames : ∀ f ∈ s.tx, isOutbound s.cfg f = true
  /-- The bank is the one before the current run of writes, after those writes (R50). -/
  history : s.runStart.writeAll s.runWrites = s.input

/-- The pad counts have DPAD_W bits (R15, R16). -/
def InputState.padsFit (w : Nat) (i : InputState) : Bool :=
  decide (i.dpad.up < 2 ^ w) && decide (i.dpad.down < 2 ^ w) && decide (i.dpad.left < 2 ^ w)
    && decide (i.dpad.right < 2 ^ w)

/-- A write has a value of its field's type: a pad count has DPAD_W bits (R36, R196). -/
def InputWrite.fits (w : Nat) : InputWrite → Bool
  | .dpad _ v => decide (v < 2 ^ w)
  | .button _ _ => true
  | .stickX _ _ => true
  | .stickY _ _ => true
  | .stickPress _ _ => true

/-- What the input source is assumed to do (R36): the writes still offered have values of their fields' types. -/
def State.inputSourceKeepsType (s : State) : Bool :=
  s.sched.all fun e => match e with
    | .inputWrite w => w.fits s.cfg.dpadW
    | _ => true

/-- Every bank the block holds or remembers has pad counts of DPAD_W bits. -/
structure PadsFit (s : State) : Prop where
  offered : s.inputSourceKeepsType = true
  written : ∀ w ∈ s.runWrites, w.fits s.cfg.dpadW = true
  input : s.input.padsFit s.cfg.dpadW = true
  start : s.runStart.padsFit s.cfg.dpadW = true
  sampled : s.sampled.padsFit s.cfg.dpadW = true

/-- What the host is assumed to do (R36): frames of at most RX_MAX bytes. No step depends on it (R75). -/
def State.hostKeepsLength (s : State) : Bool := s.rx.all fun F => decide (F.length ≤ s.cfg.rxMax)

/-- The state without the records that nothing in the block reads: FAULT (R14), diagnostics (R32), results to the owner. -/
def State.withoutRecords (s : State) : State := { s with fault := false, diag := [], owner := [] }

end Sys2Proof.Machine
end

