-- ==== Sys2Proof/Certificates/Slice0/Obligations.lean ====
section
/-! DEFINITION. The statements for the provers. Each docstring names the rules it formalises, or the decision of the spec
it rests on with the model's log entry. -/

open Sys2Proof Sys2Proof.Machine

/-! ## Creation and the lifecycle -/

/-- The two resets (R35, R230, R231): creation clears CONN, RPT_EN and FAULT and leaves SEQ and the InputState as they
are given; a successful CONNECT sets CONN, SEQ and RPT_EN and touches nothing else of the block. The FAULT bit and the
clearing of RPT_EN are decisions D16 and D21 of the spec (logs 17, 27), the untouched InputState D20 (logs 5, 27). -/
def Obligations.CreationAndConnectReset : Prop :=
  (∀ (c : Config) (input : InputState) (seq : BitVec 8), c.wf = true →
    ∃ t, create c input seq = .next t ∧ t.conn = false ∧ t.rptEn = false ∧ t.fault = false ∧ t.seq = seq ∧
      t.input = input ∧ t.cfg = c ∧ t.tx = [] ∧ t.mode = some .disconnected) ∧
  (State.reset.conn = false ∧ State.reset.rptEn = false ∧ State.reset.fault = false) ∧
  (∀ s : State, s.conn = false →
    connect true s = { s with conn := true, seq := 0, rptEn := false, owner := s.owner ++ [.ok] } ∧
      (connect true s).mode = some .idle)

/-- A configuration is refused exactly when it breaks a constraint of R5 or of 92_eei_decisions.md; the lengths of the
three fixed replies are part of the type (log 26). -/
def Obligations.CreateRefusesBadConfiguration : Prop :=
  ∀ (c : Config) (input : InputState) (seq : BitVec 8),
    create c input seq = .refused .configurationRefused ↔
      ¬ (c.ridFullOut ≠ 0x80 ∧ c.ridFullOut ∉ c.ridIgnored ∧ c.calBankB ≠ 0x60 ∧ 16 ≤ c.calA.length ∧
        c.calA.length ≤ 256 ∧ c.calB.length ≤ 256 ∧ 1 ≤ c.dpadW ∧ 16 ≤ c.rxMax)

/-- CONNECT as a step, with its three results (R190, R191; decisions D21, D28, logs 1 and 27): AlreadyConnected is
tested first and resets nothing, a failed open changes nothing, a success sets SEQ, RPT_EN and CONN only. -/
def Obligations.ConnectHasThreeResults : Prop :=
  ∀ (s : State) (openOk : Bool) (es : List Event), s.sched = .connect openOk :: es →
    (s.conn = true → step s = .next { s with
      sched := es, runStart := s.input, runWrites := [], owner := s.owner ++ [.alreadyConnected] }) ∧
    (s.conn = false → openOk = false → step s = .next { s with
      sched := es, runStart := s.input, runWrites := [], owner := s.owner ++ [.deviceOpenFailed] }) ∧
    (s.conn = false → openOk = true → step s = .next { s with
      sched := es, runStart := s.input, runWrites := [], owner := s.owner ++ [.ok],
      conn := true, seq := 0, rptEn := false })

/-- CLOSE as a step (R192; decision D21, logs 1 and 27): CONN and RPT_EN go to 0, SEQ and FAULT keep their values, no
frame. While not connected nothing but NotConnected happens: a diagnostic only (R192, R200), or a diagnostic and a result
to the owner (R206), by the configuration, since the two readings clash (log 29). -/
def Obligations.CloseStopsAndKeepsSeq : Prop :=
  ∀ (s : State) (es : List Event), s.sched = .close :: es →
    (s.conn = true → step s = .next { s with
      sched := es, runStart := s.input, runWrites := [], conn := false, rptEn := false }) ∧
    (s.conn = false → s.cfg.notConnectedToOwner = false → step s = .next { s with
      sched := es, runStart := s.input, runWrites := [], diag := s.diag ++ [.raised .notConnected] }) ∧
    (s.conn = false → s.cfg.notConnectedToOwner = true → step s = .next { s with
      sched := es, runStart := s.input, runWrites := [], diag := s.diag ++ [.raised .notConnected],
      owner := s.owner ++ [.notConnected] })

/-- INPUT_WRITE (R196): in every mode the one field takes the value as given, every other field and every other part
of the block is unchanged. -/
def Obligations.InputWriteChangesOneField : Prop :=
  ∀ (s : State) (w : InputWrite) (es : List Event), s.sched = .inputWrite w :: es →
    ∃ bank : InputState, step s = .next { s with sched := es, input := bank, runWrites := s.runWrites ++ [w] } ∧
      bank.get w.field = w.value ∧ ∀ f, f ≠ w.field → bank.get f = s.input.get f

/-- The whole effect of each of the nine conditions (R200, R211; logs 3, 17, 22): FrameOverflow sets FAULT, the two
failures of CONNECT are results to the owner, NotFound has no effect, ShortFrame and the three unknown codes leave a
diagnostic only, and NotConnected leaves one as well and goes to the owner where the configuration has R206's reading
(log 29). -/
def Obligations.ConditionsHaveOnlyTheirEffects : Prop :=
  ∀ s : State,
    raise .frameOverflow s = { s with fault := true } ∧
    raise .alreadyConnected s = { s with owner := s.owner ++ [.alreadyConnected] } ∧
    raise .deviceOpenFailed s = { s with owner := s.owner ++ [.deviceOpenFailed] } ∧
    raise .notFound s = s ∧
    (s.cfg.notConnectedToOwner = false → raise .notConnected s = { s with diag := s.diag ++ [.raised .notConnected] }) ∧
    (s.cfg.notConnectedToOwner = true → raise .notConnected s =
      { s with diag := s.diag ++ [.raised .notConnected], owner := s.owner ++ [.notConnected] }) ∧
    ∀ c : Condition, c ≠ .frameOverflow → c ≠ .alreadyConnected → c ≠ .deviceOpenFailed → c ≠ .notFound →
      c ≠ .notConnected → raise c s = { s with diag := s.diag ++ [.raised c] }

/-! ## Handshake commands -/

/-- HS_INIT (R131): whatever follows byte 1 and whatever the state, one frame `81 01 00 03 00 00 5e 00 53 5e` and 54
zeros, and no state written. -/
def Obligations.HandshakeInitRepliesIdentity : Prop :=
  SelectsHandshake 0x01 .hsInit ∧
  ∀ s : State, exec .hsInit s =
    .next (s.sent ([0x81, 0x01, 0x00, 0x03, 0x00, 0x00, 0x5e, 0x00, 0x53, 0x5e] ++ zeros 54))

/-- HS_BAUD2 and HS_BAUD3 (R132, R133): the echoed code and 62 zeros, no state written. -/
def Obligations.BaudStepsReplyEmpty : Prop :=
  SelectsHandshake 0x02 .hsBaud2 ∧ SelectsHandshake 0x03 .hsBaud3 ∧
  ∀ s : State, exec .hsBaud2 s = .next (s.sent ([0x81, 0x02] ++ zeros 62)) ∧
    exec .hsBaud3 s = .next (s.sent ([0x81, 0x03] ++ zeros 62))

/-- HS_RPT_ON and HS_RPT_OFF (R134, R135, R138): RPT_EN is set or cleared whatever it was; with P_ECHO_EN = false, the
decided value (D9, log 15), no frame is sent, with P_ECHO_EN = true the echo frame. -/
def Obligations.ReportCommandsWriteRptEn : Prop :=
  SelectsHandshake 0x04 .hsRptOn ∧ SelectsHandshake 0x05 .hsRptOff ∧ Config.configured.pEchoEn = false ∧
  ∀ s : State,
    (s.cfg.pEchoEn = false → exec .hsRptOn s = .next { s with rptEn := true } ∧
      exec .hsRptOff s = .next { s with rptEn := false }) ∧
    (s.cfg.pEchoEn = true → exec .hsRptOn s = .next ({ s with rptEn := true }.sent ([0x81, 0x04] ++ zeros 62)) ∧
      exec .hsRptOff s = .next ({ s with rptEn := false }.sent ([0x81, 0x05] ++ zeros 62)))

/-- HS_UNK (R136): F[1] = 0x00 or 0x06 to 0xff; a diagnostic, no state change, no frame. -/
def Obligations.UnknownHandshakeIsDropped : Prop :=
  (∀ code : Byte, code = 0x00 ∨ 0x06 ≤ code.toNat → SelectsHandshake code (.hsUnk code)) ∧
  ∀ (code : Byte) (s : State),
    exec (.hsUnk code) s = .next { s with diag := s.diag ++ [.raised (.unknownHandshake code)] }

/-! ## Sub-commands -/

/-- SUB_PAIR, SUB_DEVINFO and SUB_VIB (R142, R143, R153): acknowledged with the fixed data whatever the arguments, with
SEQ and the snapshot; no state written. -/
def Obligations.FixedDataSubCommandsReply : Prop :=
  SelectsSub 0x01 .subPair ∧ SelectsSub 0x02 .subDevinfo ∧ SelectsSub 0x21 .subVib ∧
  ∀ s : State,
    exec .subPair s = .next (s.sent (replyFrame s 0x81 0x01 s.cfg.sub01Reply.toList)) ∧
    exec .subDevinfo s = .next (s.sent (replyFrame s 0x82 0x02 s.cfg.sub02Reply.toList)) ∧
    exec .subVib s = .next (s.sent (replyFrame s 0xa1 0x21 s.cfg.sub21Reply.toList))

/-- The seven configuration codes and SUB_TIME (R144 to R151): acknowledged with no data, ack 0x80, with SEQ and the
snapshot; no state written. -/
def Obligations.EmptySubCommandsAcknowledge : Prop :=
  (SelectsSub 0x03 .subCfg03 ∧ SelectsSub 0x04 .subTime ∧ SelectsSub 0x08 .subCfg08 ∧ SelectsSub 0x30 .subCfg30 ∧
    SelectsSub 0x38 .subCfg38 ∧ SelectsSub 0x40 .subCfg40 ∧ SelectsSub 0x41 .subCfg41 ∧ SelectsSub 0x48 .subCfg48) ∧
  ∀ s : State,
    exec .subCfg03 s = .next (s.sent (replyFrame s 0x80 0x03 [])) ∧
    exec .subTime s = .next (s.sent (replyFrame s 0x80 0x04 [])) ∧
    exec .subCfg08 s = .next (s.sent (replyFrame s 0x80 0x08 [])) ∧
    exec .subCfg30 s = .next (s.sent (replyFrame s 0x80 0x30 [])) ∧
    exec .subCfg38 s = .next (s.sent (replyFrame s 0x80 0x38 [])) ∧
    exec .subCfg40 s = .next (s.sent (replyFrame s 0x80 0x40 [])) ∧
    exec .subCfg41 s = .next (s.sent (replyFrame s 0x80 0x41 [])) ∧
    exec .subCfg48 s = .next (s.sent (replyFrame s 0x80 0x48 []))

/-- The operands of SUB_SPIRD are inbound bytes 11 to 15 as they stand (R63, R70). That bytes 13 and 14 are carried, as
bytes of the echoed header, is decision D12 of the spec (log 20). -/
def Obligations.CalibrationOperandsAreBytes11To15 : Prop :=
  ∀ (c : Config) (F : List Byte), c.idsOk = true → 16 ≤ F.length → byteAt F 0 = c.ridFullOut → byteAt F 10 = 0x10 →
    decode c F = .ok (.subSpird (byteAt F 11) (byteAt F 12) (byteAt F 13) (byteAt F 14) (byteAt F 15))

/-- SUB_SPIRD, an in-bounds read of a known bank of at most 44 bytes (R152; the header is decision D12, log 20; bank B
is D17, log 10): ack 0x90, the five header bytes as received, and the bytes of the page. -/
def Obligations.CalibrationReadReplies : Prop :=
  ∀ (s : State) (off bank hdr13 hdr14 n : Byte) (page : List Byte), s.cfg.calBankB ≠ 0x60 →
    (bank = 0x60 ∧ page = s.cfg.calA ∨ bank = s.cfg.calBankB ∧ page = s.cfg.calB) →
    off.toNat + n.toNat ≤ page.length → n.toNat ≤ 44 →
    exec (.subSpird off bank hdr13 hdr14 n) s =
      .next { s with
        tx := s.tx ++ [[0x21, s.seq] ++ snapshot s.cfg s.sampled ++ [0x90, 0x10, off, bank, hdr13, hdr14, n]
          ++ (page.drop off.toNat).take n.toNat ++ zeros (44 - n.toNat)]
        diag := s.diag ++ [.calHit bank off n, .frameOut ([0x21, s.seq] ++ snapshot s.cfg s.sampled
          ++ [0x90, 0x10, off, bank, hdr13, hdr14, n] ++ (page.drop off.toNat).take n.toNat
          ++ zeros (44 - n.toNat))] }

/-- SUB_SPIRD of an unknown bank, or out of bounds in a known one (R152, R54; out of bounds is decision D14, log 19): a
NACK, ack 0x00, the code echoed, no data; FAULT unchanged even when n > 44. -/
def Obligations.CalibrationMissIsNacked : Prop :=
  ∀ (s : State) (off bank hdr13 hdr14 n : Byte), s.cfg.calBankB ≠ 0x60 →
    (bank ≠ 0x60 ∧ bank ≠ s.cfg.calBankB) ∨ (bank = 0x60 ∧ s.cfg.calA.length < off.toNat + n.toNat) ∨
      (bank = s.cfg.calBankB ∧ s.cfg.calB.length < off.toNat + n.toNat) →
    exec (.subSpird off bank hdr13 hdr14 n) s =
      .next { s with
        tx := s.tx ++ [[0x21, s.seq] ++ snapshot s.cfg s.sampled ++ [0x00, 0x10] ++ zeros 49]
        diag := s.diag ++ [.calMiss bank off n,
          .frameOut ([0x21, s.seq] ++ snapshot s.cfg s.sampled ++ [0x00, 0x10] ++ zeros 49)] }

/-- SUB_SPIRD, an in-bounds read of more than 44 bytes (R205, decision D15, log 17): no frame, FAULT is set, nothing
else of the block changes. -/
def Obligations.CalibrationOverflowSetsFault : Prop :=
  ∀ (s : State) (off bank hdr13 hdr14 n : Byte) (page : List Byte), s.cfg.calBankB ≠ 0x60 →
    (bank = 0x60 ∧ page = s.cfg.calA ∨ bank = s.cfg.calBankB ∧ page = s.cfg.calB) →
    off.toNat + n.toNat ≤ page.length → 44 < n.toNat →
    exec (.subSpird off bank hdr13 hdr14 n) s =
      .next { s with fault := true, diag := s.diag ++ [.calHit bank off n] }

/-- SUB_UNK (R154): any code without a row of its own; a diagnostic, no state change, no frame, no NACK. -/
def Obligations.UnknownSubCommandIsDropped : Prop :=
  (∀ sc : Byte, sc ∉ [0x01, 0x02, 0x03, 0x04, 0x08, 0x10, 0x21, 0x30, 0x38, 0x40, 0x41, 0x48] →
    SelectsSub sc (.subUnk sc)) ∧
  ∀ (sc : Byte) (s : State),
    exec (.subUnk sc) s = .next { s with diag := s.diag ++ [.raised (.unknownSubcommand sc)] }

/-! ## Other frames -/

/-- RPT_UNK (R172): F[0] not 0x80, not RID_FULL_OUT and not in RID_IGNORED; a diagnostic, no state change, no frame. With
the decided identifiers (D2, D3; logs 8, 9) the block's own outbound identifiers are among them. -/
def Obligations.UnknownReportIsDropped : Prop :=
  (∀ (c : Config) (rid : Byte) (rest : List Byte), rid ≠ 0x80 → rid ≠ c.ridFullOut → rid ∉ c.ridIgnored →
    decode c (rid :: rest) = .ok (.rptUnk rid)) ∧
  (∀ rest : List Byte, ∀ rid ∈ [0x21, 0x30, 0x81],
    decode Config.configured (rid :: rest) = .ok (.rptUnk rid)) ∧
  ∀ (rid : Byte) (s : State),
    exec (.rptUnk rid) s = .next { s with diag := s.diag ++ [.raised (.unknownReport rid)] }

/-- IGNORE (R171; the value 0x10 is decision D3, log 9): no minimum length beyond 1, no frame, no diagnostic, no state. -/
def Obligations.IgnoredReportHasNoEffect : Prop :=
  (∀ (c : Config) (rid : Byte) (rest : List Byte), rid ≠ 0x80 → rid ≠ c.ridFullOut → rid ∈ c.ridIgnored →
    decode c (rid :: rest) = .ok (.ignore rid)) ∧
  (∀ rest : List Byte, decode Config.configured (0x10 :: rest) = .ok (.ignore 0x10)) ∧
  ∀ (rid : Byte) (s : State), exec (.ignore rid) s = .next s

/-- ShortFrame (R71, R173; the lengths are decision D11, log 18): a frame is short exactly when it is empty, begins with
0x80 and has 1 byte, or begins with RID_FULL_OUT and has fewer than 16; it is dropped whole with a diagnostic. As a step
(R27, R50, R170, R219; logs 1, 2, 4, 22): a waiting short frame leaves the transport, so the next frame is at its head,
and the trace, CONN, SEQ, RPT_EN, FAULT and the InputState are unchanged. -/
def Obligations.ShortFrameIsDropped : Prop :=
  ∀ (c : Config) (F : List Byte), c.idsOk = true →
    ((∃ len, decode c F = .error (.shortFrame len)) ↔
      F = [] ∨ (byteAt F 0 = 0x80 ∧ F.length < 2) ∨ (byteAt F 0 = c.ridFullOut ∧ F.length < 16)) ∧
    (∀ len, decode c F = .error (.shortFrame len) → len = F.length ∧
      ∀ s : State, s.cfg = c →
        receive F s = .next { s with diag := s.diag ++ [.frameIn F, .raised (.shortFrame F.length)] }) ∧
    ∀ (len : Nat) (s : State) (t : Tear) (es : List Event) (rest : List (List Byte)), s.cfg = c →
      decode c F = .error (.shortFrame len) → s.sched = .rx t :: es → s.conn = true → s.rx = F :: rest →
      step s = .next { s with
        sched := es, rx := rest, runStart := s.input, runWrites := [],
        sampled := sampleInput t s.runStart (s.runWrites ++ writesNext rest.isEmpty es) s.input,
        diag := s.diag ++ [.frameIn F, .raised (.shortFrame F.length)] }

/-! ## Decoding -/

/-- Words written out from the encodings of R61 to R64 and R72, R73 decode to the commands they stand for, with the built
identifiers (D2, D3; logs 8, 9), the header bytes of D12 (log 20) and the numbering of log 23. -/
def Obligations.WrittenWordsDecode : Prop :=
  decode Config.configured [0x80, 0x01] = .ok .hsInit ∧
  decode Config.configured [0x80, 0x05, 0xff] = .ok .hsRptOff ∧
  decode Config.configured [0x80, 0xff] = .ok (.hsUnk 0xff) ∧
  decode Config.configured [0x01, 0, 0, 0, 0, 0, 0, 0, 0, 0, 0x02, 0, 0, 0, 0, 0] = .ok .subDevinfo ∧
  decode Config.configured [0x01, 0xff, 1, 2, 3, 4, 5, 6, 7, 8, 0x10, 0x3c, 0x60, 0xaa, 0xbb, 0x04, 0xee] =
    .ok (.subSpird 0x3c 0x60 0xaa 0xbb 0x04) ∧
  decode Config.configured [0x10] = .ok (.ignore 0x10) ∧
  decodeTableWord 16 0x0180 = some .hsInit

/-- Decoding the canonical frame of a well-formed command gives it back, with every operand. -/
def Obligations.DecodeOfEncode : Prop :=
  ∀ (c : Config) (i : Instr), c.idsOk = true → i.wellFormed c = true → decode c (encode c i) = .ok i

/-- Every frame that decodes, decodes to a well-formed command, and the command's canonical frame has the frame's
identifier and decodes to the same command. -/
def Obligations.DecodedCommandIsWellFormed : Prop :=
  ∀ (c : Config) (F : List Byte) (i : Instr), c.idsOk = true → decode c F = .ok i →
    i.wellFormed c = true ∧ byteAt (encode c i) 0 = byteAt F 0 ∧ decode c (encode c i) = .ok i

/-- The decoder selects the row of spec/opcode_table.json that R78's rule of masks, minimum lengths and catch-alls
selects, and rejects exactly the frames that select no row; with the decided identifiers (D2, D3; logs 8, 9). -/
def Obligations.DecodeSelectsTableRow : Prop :=
  ∀ (c : Config) (F : List Byte), c.ridFullOut = 0x01 → c.ridIgnored = [0x10] →
    tableMnemonic F = (match decode c F with | .ok i => some i.mnemonic | .error _ => none)

/-- Only bytes 0 and 1 of a handshake command, and bytes 0 and 10 to 15 of a full output report, are read (R61, R62,
R155; decision D26): frames that agree there, and are long enough, decode to the same command. -/
def Obligations.OtherInboundBytesAreNotRead : Prop :=
  ∀ (c : Config) (F G : List Byte), byteAt F 0 = byteAt G 0 →
    (byteAt F 0 = 0x80 → 2 ≤ F.length → 2 ≤ G.length → byteAt F 1 = byteAt G 1 → decode c F = decode c G) ∧
    (byteAt F 0 ≠ 0x80 → byteAt F 0 = c.ridFullOut → 16 ≤ F.length → 16 ≤ G.length →
      (∀ k, 10 ≤ k → k ≤ 15 → byteAt F k = byteAt G k) → decode c F = decode c G) ∧
    (byteAt F 0 ≠ 0x80 → byteAt F 0 ≠ c.ridFullOut → F ≠ [] → G ≠ [] → decode c F = decode c G)

/-! ## The report codec -/

/-- The group bytes "left", "center" and "right", bit by bit, bit 0 first (R100, R101, R102). That a directional-pad bit
is 1 exactly when its count is not 0 is decision D6 of the spec (log 16). -/
def Obligations.GroupBytesBitByBit : Prop :=
  ∀ i : InputState,
    (List.range 8).map (groupLeft i).getLsbD =
      [i.button.y, i.button.x, i.button.b, i.button.a, false, false, i.button.r, i.button.zr] ∧
    (List.range 8).map (groupCenter i).getLsbD =
      [i.button.minus, i.button.plus, i.stickRight.press, i.stickLeft.press, i.button.home, i.button.capture,
        false, false] ∧
    (List.range 8).map (groupRight i).getLsbD =
      [decide (i.dpad.down ≠ 0), decide (i.dpad.up ≠ 0), decide (i.dpad.right ≠ 0), decide (i.dpad.left ≠ 0),
        false, false, i.button.l, i.button.zl]

/-- quantize in range (R103; the bounds of the interval rest on the tie rule of round, decision D7 of the spec, log 13):
the raw value fits 12 bits exactly for -1 - 1/4096 < a < 1 - 1/4096, and there the result
is the raw value, the integer nearest to (1 + a) * 2048; with the rule's own values. -/
def Obligations.QuantizeInRangeIsExact : Prop :=
  (∀ a : Rat, (0 ≤ rawAxis a ∧ rawAxis a ≤ 4095) ↔ (-1 - 1 / 4096 < a ∧ a < 1 - 1 / 4096)) ∧
  (∀ a : Rat, -1 - 1 / 4096 < a → a < 1 - 1 / 4096 →
    (quantize a : Int) = rawAxis a ∧ |(quantize a : Rat) - (1 + a) * 2048| ≤ 1 / 2) ∧
  quantize 0 = 2048 ∧ quantize (-1) = 0 ∧ quantize (2047 / 2048) = 4095 ∧ quantize (1 / 2) = 3072 ∧
  quantize (-1 / 2) = 1024 ∧ quantize (1 / 10) = 2253 ∧ quantize (-1 / 3) = 1365

/-- quantize outside the range (R104): the spec's own choice to clamp (D8, log 14). -/
def Obligations.QuantizeClampsOutside : Prop :=
  ∀ a : Rat, quantize a ≤ 4095 ∧ (1 - 1 / 4096 ≤ a → quantize a = 4095) ∧ (a ≤ -1 - 1 / 4096 → quantize a = 0)

/-- round (R105): the nearest integer, a tie going away from zero; the tie rule is the spec's own (D7, log 13). -/
def Obligations.RoundIsNearestAwayFromZero : Prop :=
  ∀ q : Rat, |(roundAway q : Rat) - q| ≤ 1 / 2 ∧ (|(roundAway q : Rat) - q| = 1 / 2 → |q| < |(roundAway q : Rat)|)

/-- pack_12bit_pair (R106): three bytes, low-order first, on all naturals, bits above bit 11 not used. -/
def Obligations.PackPutsTwelveBitPairs : Prop :=
  ∀ a b : Nat, ∃ p0 p1 p2 : Byte, pack12 a b = [p0, p1, p2] ∧ p0.toNat = a % 256 ∧
    p1.toNat = b % 16 * 16 + a / 256 % 16 ∧ p2.toNat = b / 16 % 256 ∧ pack12 a b = pack12 (a % 4096) (b % 4096)

/-- unpack_12bit_pair and pack_12bit_pair are inverse to each other (R107, which the spec derives from R106; the
round-trip law of the source's section 8). -/
def Obligations.PackAndUnpackAreInverse : Prop :=
  (∀ a b : Nat, a < 4096 → b < 4096 → ∃ p0 p1 p2, pack12 a b = [p0, p1, p2] ∧ unpack12 p0 p1 p2 = (a, b)) ∧
  (∀ p0 p1 p2 : Byte, (unpack12 p0 p1 p2).1 < 4096 ∧ (unpack12 p0 p1 p2).2 < 4096 ∧
    pack12 (unpack12 p0 p1 p2).1 (unpack12 p0 p1 p2).2 = [p0, p1, p2])

/-- The snapshot (R109): 11 bytes, the status byte SNAP_HDR first (D4, log 11), the left stick before the right one
(D5, log 12), X before Y, and the reserved zero byte. -/
def Obligations.SnapshotLayout : Prop :=
  ∀ (c : Config) (i : InputState), ∃ l0 l1 l2 r0 r1 r2 : Byte,
    snapshot c i =
      [c.snapHdr, groupLeft i, groupCenter i, groupRight i, l0, l1, l2, r0, r1, r2, 0x00] ∧
    unpack12 l0 l1 l2 = (quantize i.stickLeft.x, quantize i.stickLeft.y) ∧
    unpack12 r0 r1 r2 = (quantize i.stickRight.x, quantize i.stickRight.y)

/-- frame (R110): 64 bytes for every payload of 0 to 62 bytes, the payload from byte 2 on, then zeros; and no result for
a longer payload (R111, decision D15 of the spec, log 17). -/
def Obligations.FrameIsAlways64Bytes : Prop :=
  ∀ (id b1 : Byte) (payload : List Byte),
    (payload.length ≤ 62 → ∃ f, frame id b1 payload = some f ∧ f.length = 64 ∧ byteAt f 0 = id ∧ byteAt f 1 = b1 ∧
      (f.drop 2).take payload.length = payload ∧ f.drop (2 + payload.length) = zeros (62 - payload.length)) ∧
    (62 < payload.length → frame id b1 payload = none)

/-- The ack byte (R69), with the rule's values for the commands of the block. -/
def Obligations.AckByteRule : Prop :=
  (∀ (sc : Byte) (d : Nat), ackByte false sc d = 0x00 ∧ ackByte true sc 0 = 0x80 ∧ (0 < d → ackByte true sc d = 0x80 ||| sc)) ∧
  (∀ d : Nat, 0 < d → ackByte true 0x01 d = 0x81 ∧ ackByte true 0x02 d = 0x82 ∧ ackByte true 0x10 d = 0x90 ∧
    ackByte true 0x21 d = 0xa1) ∧
  (∀ sc ∈ [0x03, 0x04, 0x08, 0x30, 0x38, 0x40, 0x41, 0x48], ackByte true sc 0 = 0x80) ∧ ackByte false 0x10 0 = 0x00

/-! ## The calibration store -/

/-- CalRead (R120): NotFound for an unknown bank or a range out of bounds on naturals, else exactly n bytes, byte i of
the result being byte off + i of the page. The natural sum and NotFound out of bounds in a known bank are decisions D13
and D14 of the spec (R122, log 19). -/
def Obligations.CalReadIsExact : Prop :=
  ∀ (c : Config) (bank off n : Byte), c.calBankB ≠ 0x60 →
    (bank ≠ 0x60 → bank ≠ c.calBankB → calRead c bank off n = .error .notFound) ∧
    (∀ page, (bank = 0x60 ∧ page = c.calA ∨ bank = c.calBankB ∧ page = c.calB) →
      (page.length < off.toNat + n.toNat → calRead c bank off n = .error .notFound) ∧
      (off.toNat + n.toNat ≤ page.length → ∃ bytes, calRead c bank off n = .ok bytes ∧ bytes.length = n.toNat ∧
        ∀ i, i < n.toNat → bytes[i]? = page[off.toNat + i]? ∧ (page[off.toNat + i]?).isSome = true))

/-- The calibration space seen as memory cells holds, at the address of (bank, offset), the byte of the page, and
nothing anywhere else (R40, R41; log 19). -/
def Obligations.CalibrationCellsMatchPages : Prop :=
  ∀ c : Config, c.wf = true →
    (∀ (bank : Byte) (off : Nat), off < 256 →
      (calMemory c).byte (calAddress bank off) = (calPage c bank).bind (fun page => page[off]?)) ∧
    ∀ cell ∈ calMemory c, ∃ (bank : Byte) (off : Nat), off < 256 ∧ cell.1 = calAddress bank off

/-- Reading calibration memory changes nothing (R45), and there is no write path: no step changes the configuration or
any byte of the calibration space, and every read gives the same result before and after any step, in any mode. -/
def Obligations.CalibrationNeverChanges : Prop :=
  ∀ s t : State, step s = .next t → t.cfg = s.cfg ∧
    (∀ (bank : Byte) (off : Nat), t.calByte bank off = s.calByte bank off) ∧
    ∀ bank off n : Byte, calRead t.cfg bank off n = calRead s.cfg bank off n

/-! ## Commands: frames and totality -/

/-- Every command completes from every state (R170, R178): no frame stops the parser. That an over-long calibration read
goes on is decision D15 of the spec (log 17). -/
def Obligations.EveryCommandCompletes : Prop :=
  ∀ (i : Instr) (s : State), ∃ t, exec i s = .next t

/-- What a command leaves unchanged (R20, R130, R156): CONN, SEQ, the InputState, the configuration with every byte of
the calibration space, and the ports it does not own; RPT_EN but for HS_RPT_ON and HS_RPT_OFF; FAULT but for SUB_SPIRD,
and it is never cleared (decisions D15 and D16 of the spec, log 17); at most one frame of 64 bytes is added to the
trace. R20 carries the spec's decision D20, but that no command writes the InputState is the source's ("read-only to
ReportScheduler/ReportCodec"). -/
def Obligations.CommandsKeepTheRest : Prop :=
  ∀ (i : Instr) (s t : State), exec i s = .next t →
    t.conn = s.conn ∧ t.seq = s.seq ∧ t.input = s.input ∧ t.cfg = s.cfg ∧
    (∀ (bank : Byte) (off : Nat), t.calByte bank off = s.calByte bank off) ∧
    t.rx = s.rx ∧ t.sched = s.sched ∧ t.owner = s.owner ∧ t.sampled = s.sampled ∧ t.runStart = s.runStart ∧
    t.runWrites = s.runWrites ∧
    (i ≠ .hsRptOn → i ≠ .hsRptOff → t.rptEn = s.rptEn) ∧
    ((∀ off bank hdr13 hdr14 n, i ≠ .subSpird off bank hdr13 hdr14 n) → t.fault = s.fault) ∧
    (s.fault = true → t.fault = true) ∧
    (t.tx = s.tx ∨ ∃ f, t.tx = s.tx ++ [f] ∧ f.length = 64)

/-! ## Events -/

/-- A frame at the head of the transport whose bytes decode to a command: the step is that command's `exec`, at the
state in which the event has been taken from the schedule, the frame from the transport, the InputState has been
sampled, and the arrival is recorded (R27, R170, R50, R219; logs 1, 2, 4). -/
def Obligations.StepRunsTheDecodedCommand : Prop :=
  ∀ (s : State) (t : Tear) (es : List Event) (F : List Byte) (rest : List (List Byte)) (i : Instr),
    s.sched = .rx t :: es → s.conn = true → s.rx = F :: rest → decode s.cfg F = .ok i →
    step s = exec i { s with
      sched := es, rx := rest, runStart := s.input, runWrites := [],
      sampled := sampleInput t s.runStart (s.runWrites ++ writesNext rest.isEmpty es) s.input,
      diag := s.diag ++ [.frameIn F] }

/-- While CONN = 0 no tick has any effect, no inbound frame is consumed and no frame is transmitted (R11); the only
events that occur are CONNECT, CLOSE and INPUT_WRITE (R23). A waiting frame stays in the transport (decision D25 of the
spec, log 2). -/
def Obligations.DisconnectedIsSilent : Prop :=
  ∀ s t : State, s.conn = false → step s = .next t →
    t.tx = s.tx ∧ t.rx = s.rx ∧
    (∀ (tear : Tear) (es : List Event),
      s.sched = .rx tear :: es ∨ s.sched = .tickRpt tear :: es ∨ s.sched = .tickSeq :: es →
        t = { s with sched := es })

/-- With no event offered, or the read loop's turn with no frame waiting, nothing changes (R33, R36; log 1). -/
def Obligations.NothingOfferedNothingChanges : Prop :=
  ∀ s : State, (s.sched = [] → step s = .next s) ∧
    ∀ (t : Tear) (es : List Event), s.sched = .rx t :: es → s.rx = [] → step s = .next { s with sched := es }

/-- TICK_SEQ (R174): while connected SEQ goes up by 1 modulo 256 and nothing else of the block changes; else nothing;
after 256 ticks the value returns to its starting value; no command affects the counter. -/
def Obligations.TickSeqIncrementsModulo256 : Prop :=
  (∀ (s : State) (es : List Event), s.sched = .tickSeq :: es →
    (s.conn = true → ∃ q : BitVec 8, q.toNat = (s.seq.toNat + 1) % 256 ∧
      step s = .next { s with sched := es, runStart := s.input, runWrites := [], seq := q }) ∧
    (s.conn = false → step s = .next { s with sched := es })) ∧
  (∀ s : State, tickSeq^[256] s = s) ∧
  ∀ (i : Instr) (s t : State), exec i s = .next t → t.seq = s.seq

/-- TICK_RPT (R175): while connected and enabled one O30 frame with SEQ and the snapshot, no state written; else no
frame. The snapshot is that of the InputState as sampled with the event's tear (R50, decision D20, log 4). -/
def Obligations.TickRptTransmitsWhenEnabled : Prop :=
  ∀ (s : State) (t : Tear) (es : List Event), s.sched = .tickRpt t :: es →
    (s.conn = true → s.rptEn = true → ∃ view : InputState,
      view = sampleInput t s.runStart (s.runWrites ++ writesNext s.rx.isEmpty es) s.input ∧
      step s = .next { s with
        sched := es, runStart := s.input, runWrites := [], sampled := view,
        tx := s.tx ++ [[0x30, s.seq] ++ snapshot s.cfg view ++ zeros 51] }) ∧
    (s.conn = true → s.rptEn = false → ∃ view : InputState,
      step s = .next { s with sched := es, runStart := s.input, runWrites := [], sampled := view }) ∧
    (s.conn = false → step s = .next { s with sched := es })

/-- A periodic report with no INPUT_WRITE next to it shows the InputState as it is: bit 3 of frame byte 3 is Button.A
(R50, R175, the end-to-end example of the source's section 8; byte 3 is decision D4, log 11; which writes stand next to
the report is decision D20, log 4). -/
def Obligations.ReportShowsTheInput : Prop :=
  ∀ (s : State) (t : Tear) (es : List Event), Inv s → s.conn = true → s.rptEn = true → s.sched = .tickRpt t :: es →
    s.runWrites = [] → writesNext s.rx.isEmpty es = [] →
    ∃ u f, step s = .next u ∧ u.tx = s.tx ++ [f] ∧ f = [0x30, s.seq] ++ snapshot s.cfg s.input ++ zeros 51 ∧
      (byteAt f 3).getLsbD 3 = s.input.button.a

/-- A torn read (R50, decision D20, log 4): each field shows its value at the event's place or its value after the first
k of the adjacent writes to it, for some k, and every combination of such choices is the read of some tear. -/
def Obligations.TornReadShowsHeldValues : Prop :=
  (∀ (t : Tear) (base cur : InputState) (ws : List InputWrite) (f : InputField),
    (sampleInput t base ws cur).get f = cur.get f ∨
      ∃ k, (sampleInput t base ws cur).get f =
        (base.writeAll ((ws.filter (fun w => w.field == f)).take k)).get f) ∧
  (∀ (choice : InputField → Option Nat), ∃ t : Tear, ∀ (base cur : InputState) (ws : List InputWrite) (f : InputField),
    (sampleInput t base ws cur).get f = (match choice f with
      | none => cur.get f
      | some k => (base.writeAll ((ws.filter (fun w => w.field == f)).take k)).get f))

/-- Every state has a next state (R178): the block cannot deadlock and no condition stops it. That FrameOverflow does not
is decision D15 of the spec (log 17); an event that cannot occur is passed over (log 1). -/
def Obligations.EveryStepCompletes : Prop :=
  ∀ s : State, ∃ t, step s = .next t

/-- Every event transmits at most one frame, always of exactly 64 bytes, after those already transmitted (R28, R33). -/
def Obligations.AtMostOneFramePerEvent : Prop :=
  ∀ s t : State, step s = .next t → t.tx = s.tx ∨ ∃ f, t.tx = s.tx ++ [f] ∧ f.length = 64

/-- No event but INPUT_WRITE changes the InputState (R20). That CONNECT and CLOSE leave it is decision D20 of the spec
(log 27). -/
def Obligations.OnlyInputWritesChangeTheInput : Prop :=
  ∀ s t : State, step s = .next t → (∀ w es, s.sched ≠ .inputWrite w :: es) → t.input = s.input

/-- Which events change the control elements (R10, R156, section 4 of 95_test_vectors.md): CONN only CONNECT and CLOSE;
SEQ only CONNECT and TICK_SEQ; RPT_EN only CONNECT, CLOSE, HS_RPT_ON and HS_RPT_OFF; FAULT only a SUB_SPIRD. The FAULT
clause is decisions D15 and D16 of the spec (log 17), what CONNECT and CLOSE write decision D21 (log 27). -/
def Obligations.ControlElementsHaveTheirWriters : Prop :=
  ∀ s t : State, step s = .next t →
    (t.conn ≠ s.conn → s.sched.head? = some (.connect true) ∨ s.sched.head? = some .close) ∧
    (t.seq ≠ s.seq → s.sched.head? = some (.connect true) ∨ s.sched.head? = some .tickSeq) ∧
    (t.rptEn ≠ s.rptEn → s.sched.head? = some (.connect true) ∨ s.sched.head? = some .close ∨
      ∃ tear F rest, s.sched.head? = some (.rx tear) ∧ s.rx = F :: rest ∧
        (decode s.cfg F = .ok .hsRptOn ∨ decode s.cfg F = .ok .hsRptOff)) ∧
    (t.fault ≠ s.fault → ∃ tear F rest off bank hdr13 hdr14 n, s.sched.head? = some (.rx tear) ∧ s.rx = F :: rest ∧
      decode s.cfg F = .ok (.subSpird off bank hdr13 hdr14 n) ∧ 44 < n.toNat ∧ t.fault = true ∧ t.tx = s.tx)

/-- The modes and what leads from one to another (R23, R214; that CONNECT and CLOSE clear RPT_EN is decision D21 of the
spec, log 27). -/
def Obligations.ModesChangeOnlyAsListed : Prop :=
  ∀ s t : State, step s = .next t →
    (s.mode = some .disconnected → t.mode = some .disconnected ∨
      t.mode = some .idle ∧ s.sched.head? = some (.connect true)) ∧
    (s.mode = some .idle → t.mode = some .idle ∨ t.mode = some .disconnected ∧ s.sched.head? = some .close ∨
      t.mode = some .reporting ∧ ∃ tear F rest, s.sched.head? = some (.rx tear) ∧ s.rx = F :: rest ∧
        decode s.cfg F = .ok .hsRptOn) ∧
    (s.mode = some .reporting → t.mode = some .reporting ∨
      t.mode = some .disconnected ∧ s.sched.head? = some .close ∨
      t.mode = some .idle ∧ ∃ tear F rest, s.sched.head? = some (.rx tear) ∧ s.rx = F :: rest ∧
        decode s.cfg F = .ok .hsRptOff)

/-! ## Whole-machine statements -/

/-- The state after reset meets the invariant (R35), whatever the opaque values of logs 5, 6 and 7 are. -/
def Obligations.ResetMeetsTheInvariant : Prop := Inv State.reset ∧ PadsFit State.reset

/-- Every step keeps the invariant: the configuration meets its constraints, CONN = 0 with RPT_EN = 1 never occurs
(R23), every transmitted frame is 64 bytes in one of the three formats O81, O21, O30 (R65 to R69), and the InputState is
the one before the current run of writes after those writes (R50). That SNAP_HDR is frame byte 2 and the group bytes are
3 to 5 is decision D4 of the spec (log 11); that CLOSE clears RPT_EN is decision D21 (log 27). -/
def Obligations.StepKeepsTheInvariant : Prop :=
  ∀ s t : State, Inv s → step s = .next t → Inv t

/-- As long as the input source writes counts of DPAD_W bits, every bank the block holds or samples has counts of DPAD_W
bits (R15, R16, R36; log 16). -/
def Obligations.PadCountsKeepTheirWidth : Prop :=
  ∀ s t : State, PadsFit s → step s = .next t → PadsFit t

/-- Nothing in the block reads FAULT (R14, decision D16 of the spec, log 17), the diagnostics (R32) or the results given
to the owner: two states that differ only in those step to states that differ only in those. -/
def Obligations.RecordsAreNeverRead : Prop :=
  ∀ s s' t : State, s.withoutRecords = s'.withoutRecords → step s = .next t →
    ∃ t', step s' = .next t' ∧ t.withoutRecords = t'.withoutRecords

/-- SEQ is a count of strobes at every step (R174, R12, R191; a refused CONNECT is log 27): from a connected state an
event other than CLOSE keeps CONN = 1 and adds 1 to SEQ modulo 256 when it is TICK_SEQ, and leaves SEQ when it is anything else. -/
def Obligations.ConnectedStepCountsTicks : Prop :=
  ∀ (s t : State) (e : Event) (es : List Event), s.conn = true → s.sched = e :: es → e ≠ .close → step s = .next t →
    t.conn = true ∧ t.seq.toNat = (if e = .tickSeq then (s.seq.toNat + 1) % 256 else s.seq.toNat)

/-- SEQ counts the strobes of the counter timer, whatever other events but CLOSE are interleaved; after 256 of them it
has its starting value (R174, the counter example of the source's section 8). That the run goes on past an over-long
calibration read is decision D15 of the spec (log 17), that a CONNECT in it leaves SEQ is decision D21 and R191 (log 27),
and that an event which cannot occur is passed over is log 1. -/
def Obligations.SeqCountsTicksInEveryInterleaving : Prop :=
  ∀ (es : List Event) (s : State), s.conn = true → Event.close ∉ es →
    ∃ t, runScript es s = .next t ∧ t.conn = true ∧ t.seq = s.seq + BitVec.ofNat 8 (es.count .tickSeq) ∧
      (es.count .tickSeq = 256 → t.seq = s.seq)

/-- HS_RPT_ON twice, then HS_RPT_OFF once, with any ticks between and after: reporting is off and no later tick
transmits (R13, R134, R135, the idempotence example of the source's section 8; D10; without the optional echo, D9,
log 15). -/
def Obligations.DoubleEnableIsUndoneByOneDisable : Prop :=
  ∀ (s : State) (t1 t2 t3 : Tear) (a b c : List Event),
    (∀ e ∈ a ++ b ++ c, e = .tickSeq ∨ ∃ t, e = .tickRpt t) → s.conn = true → s.cfg.pEchoEn = false →
    s.rx = [[0x80, 0x04], [0x80, 0x04], [0x80, 0x05]] →
    ∃ u v, runScript (.rx t1 :: a ++ .rx t2 :: b ++ [.rx t3]) s = .next u ∧
      runScript (.rx t1 :: a ++ .rx t2 :: b ++ .rx t3 :: c) s = .next v ∧
      u.rptEn = false ∧ v.rptEn = false ∧ v.tx = u.tx ∧ v.conn = true

/-- "Once 1 it stays 1 for the life of the block" (R14; decision D16, log 17): at the end of every run that starts with
FAULT = 1, whatever its events, FAULT is 1. -/
def Obligations.FaultIsStickyThroughRuns : Prop :=
  ∀ (n : Nat) (s t : State), Sys2Proof.core.run n s = .next t → s.fault = true → t.fault = true
end

