-- ==== Sys2Proof/Laws/Calibration.lean ====
section
/-! SUPPORT. What a calibration read answers, and the canonical form of the calibration memory. No operation writes it
(R46), so the form holds of every state whose configuration meets its constraints. -/

namespace Sys2Proof.Machine

theorem calPage_bankA (c : Config) : calPage c calBankA = some c.calA := if_pos rfl

/-- The bank test comes first (R121). -/
theorem calRead_unknown {c : Config} {bank : Byte} (off n : Byte) (h : calPage c bank = none) :
    calRead c bank off n = .error .notFound := by
  simp [calRead, h]

theorem calRead_inBounds {c : Config} {bank off n : Byte} {page : List Byte} (hp : calPage c bank = some page)
    (h : off.toNat + n.toNat ≤ page.length) :
    calRead c bank off n = .ok ((page.drop off.toNat).take n.toNat) := by
  simp [calRead, hp, h]

theorem calRead_outOfBounds {c : Config} {bank off n : Byte} {page : List Byte} (hp : calPage c bank = some page)
    (h : page.length < off.toNat + n.toNat) : calRead c bank off n = .error .notFound := by
  simp [calRead, hp, h]

/-- The canonical form is that the addresses are pairwise rising. -/
theorem Memory.wf_iff_pairwise (m : Memory) : Memory.wf m = true ↔ m.Pairwise (fun a b => a.1 < b.1) := by
  induction m with
  | nil => simp [Memory.wf]
  | cons a m ih =>
    cases m with
    | nil => simp [Memory.wf]
    | cons b m =>
      simp only [Memory.wf, Bool.and_eq_true, decide_eq_true_eq, ih]
      refine ⟨fun ⟨hab, hp⟩ => List.pairwise_cons.mpr ⟨fun d hd => ?_, hp⟩, fun h => ?_⟩
      · rcases List.mem_cons.mp hd with rfl | hd
        · exact hab
        · exact hab.trans ((List.pairwise_cons.mp hp).1 d hd)
      · exact ⟨(List.pairwise_cons.mp h).1 b List.mem_cons_self, (List.pairwise_cons.mp h).2⟩

/-- A cell of a page stands at an offset within it. -/
theorem mem_pageCells {bank : Byte} {page : List Byte} {p : Host.Cell} (h : p ∈ pageCells bank page) :
    ∃ off, off < page.length ∧ p.1 = calAddress bank off := by
  obtain ⟨⟨b, off⟩, hm, rfl⟩ := List.mem_map.mp h
  exact ⟨off, by simpa using (List.mem_zipIdx hm).2.1, rfl⟩

theorem pageCells_pairwise (bank : Byte) (page : List Byte) :
    (pageCells bank page).Pairwise (fun a b => a.1 < b.1) := by
  rw [pageCells, List.pairwise_map]
  have h : ∀ (k : Nat), (page.zipIdx k).Pairwise (fun a b => a.2 < b.2) := by
    induction page with
    | nil => simp
    | cons x xs ih =>
      intro k
      refine List.pairwise_cons.mpr ⟨fun d hd => ?_, ih (k + 1)⟩
      have := (List.mem_zipIdx hd).1
      omega
  exact (h 0).imp (fun hlt => Nat.add_lt_add_left hlt _)

/-- Two pages of at most 256 bytes, the lower bank first, are in canonical form. -/
theorem pageCells_append_pairwise {b₁ b₂ : Byte} {p₁ p₂ : List Byte} (hb : b₁.toNat < b₂.toNat)
    (h₁ : p₁.length ≤ 256) : (pageCells b₁ p₁ ++ pageCells b₂ p₂).Pairwise (fun a b => a.1 < b.1) := by
  refine List.pairwise_append.mpr ⟨pageCells_pairwise _ _, pageCells_pairwise _ _, fun x hx y hy => ?_⟩
  obtain ⟨i, hi, hx⟩ := mem_pageCells hx
  obtain ⟨j, -, hy⟩ := mem_pageCells hy
  rw [hx, hy, calAddress, calAddress]
  omega

/-- The calibration memory of a configuration that meets its constraints is in canonical form. -/
theorem calMemory_wf {c : Config} (h : c.wf = true) : Memory.wf (calMemory c) = true := by
  simp only [Config.wf, Bool.and_eq_true, decide_eq_true_eq, bne_iff_ne, ne_eq] at h
  have hne : c.calBankB.toNat ≠ calBankA.toNat := fun e => h.1.1.1.1.1.2 (BitVec.eq_of_toNat_eq e)
  rw [Memory.wf_iff_pairwise, calMemory]
  split
  · exact pageCells_append_pairwise ‹_› h.1.1.1.2
  · exact pageCells_append_pairwise (by omega) h.1.1.2

end Sys2Proof.Machine
end

