-- ==== Sys2Proof/Laws/Codec.lean ====
section
/-! SUPPORT. What the codec's functions answer: lengths of packed bytes and snapshots, the frame for every payload, and
the two slices of a group byte. -/

namespace Sys2Proof

@[simp] theorem zeros_length (n : Nat) : (zeros n).length = n := List.length_replicate

namespace Machine

@[simp] theorem pack12_length (a b : Nat) : (pack12 a b).length = 3 := rfl

@[simp] theorem snapshot_length (c : Config) (i : InputState) : (snapshot c i).length = 11 := rfl

theorem frame_of_le {id b1 : Byte} {payload : List Byte} (h : payload.length ≤ 62) :
    frame id b1 payload = some ([id, b1] ++ payload ++ zeros (62 - payload.length)) := if_pos h

theorem frame_of_gt {id b1 : Byte} {payload : List Byte} (h : 62 < payload.length) :
    frame id b1 payload = none := if_neg (Nat.not_le.mpr h)

theorem length_of_frame {id b1 : Byte} {payload f : List Byte} (h : frame id b1 payload = some f) :
    f.length = 64 := by
  by_cases hp : payload.length ≤ 62
  · rw [frame_of_le hp, Option.some.injEq] at h
    subst h
    simp only [List.length_append, List.length_cons, List.length_nil, zeros_length]
    omega
  · simp [frame_of_gt (Nat.not_le.mp hp)] at h

theorem ackByte_acked_empty (sc : Byte) : ackByte true sc 0 = 0x80 := rfl

theorem ackByte_acked_data (sc : Byte) {d : Nat} (h : d ≠ 0) : ackByte true sc d = 0x80 ||| sc := by
  simp [ackByte, ackBase, h]

@[simp] theorem ackByte_refused (sc : Byte) (d : Nat) : ackByte false sc d = 0x00 := rfl

end Machine

end Sys2Proof
end

