-- ==== Sys2Proof/Laws/Decode.lean ====
section
/-! SUPPORT. What the decoder answers, one lemma per branch of R71. -/

namespace Sys2Proof

@[simp] theorem byteAt_zero_cons (b : Byte) (F : List Byte) : byteAt (b :: F) 0 = b := rfl

@[simp] theorem decode_empty (c : Config) : decode c [] = .error (.shortFrame 0) := rfl

theorem decode_handshake {c : Config} {F : List Byte} (h0 : byteAt F 0 = ridUsbCmd) (h : 2 ≤ F.length) :
    decode c F = .ok (decodeHandshake (byteAt F 1)) := by
  have h1 : F ≠ [] := fun e => by simp [e] at h
  simp [decode, h0, h1, Nat.not_lt.mpr h]

theorem decode_fullOut {c : Config} {F : List Byte} (hc : c.idsOk = true) (h0 : byteAt F 0 = c.ridFullOut)
    (h : 16 ≤ F.length) :
    decode c F = .ok (decodeSubCommand (byteAt F 10) (byteAt F 11) (byteAt F 12) (byteAt F 13) (byteAt F 14)
      (byteAt F 15)) := by
  have h1 : F ≠ [] := fun e => by simp [e] at h
  simp only [Config.idsOk, Bool.and_eq_true, bne_iff_ne] at hc
  simp [decode, h0, h1, hc.1, Nat.not_lt.mpr h]

theorem decode_ignored {c : Config} {F : List Byte} (hF : F ≠ []) (h1 : byteAt F 0 ≠ ridUsbCmd)
    (h2 : byteAt F 0 ≠ c.ridFullOut) (h3 : c.ridIgnored.contains (byteAt F 0) = true) :
    decode c F = .ok (.ignore (byteAt F 0)) := by
  simp [decode, hF, h1, h2, List.contains_iff_mem.mp h3]

theorem decode_unknownReport {c : Config} {F : List Byte} (hF : F ≠ []) (h1 : byteAt F 0 ≠ ridUsbCmd)
    (h2 : byteAt F 0 ≠ c.ridFullOut) (h3 : c.ridIgnored.contains (byteAt F 0) = false) :
    decode c F = .ok (.rptUnk (byteAt F 0)) := by
  have h3' : byteAt F 0 ∉ c.ridIgnored := by simpa using h3
  simp [decode, hF, h1, h2, h3']

/-- A handshake code with no row of its own (R72). -/
theorem decodeHandshake_unknown : ∀ {code : Byte}, code ∉ handshakeCodes → decodeHandshake code = .hsUnk code := by
  decide

/-- A sub-command code with no row of its own (R73). -/
theorem decodeSubCommand_unknown {sc b11 b12 b13 b14 b15 : Byte} (h : sc ∉ subCommandCodes) :
    decodeSubCommand sc b11 b12 b13 b14 b15 = .subUnk sc := by
  simp only [subCommandCodes, List.mem_cons, List.not_mem_nil, or_false, not_or] at h
  obtain ⟨h1, h2, h3, h4, h5, h6, h7, h8, h9, h10, h11, h12⟩ := h
  rw [decodeSubCommand, if_neg h1, if_neg h2, if_neg h3, if_neg h4, if_neg h5, if_neg h6, if_neg h7, if_neg h8,
    if_neg h9, if_neg h10, if_neg h11, if_neg h12]

theorem decodeHandshake_wellFormed (c : Config) (code : Byte) : (decodeHandshake code).wellFormed c = true := by
  by_cases h : code ∈ handshakeCodes
  · revert h; revert code; simp [handshakeCodes, decodeHandshake, Instr.wellFormed]
  · simp [decodeHandshake_unknown h, Instr.wellFormed, h]

theorem decodeSubCommand_wellFormed (c : Config) (sc b11 b12 b13 b14 b15 : Byte) :
    (decodeSubCommand sc b11 b12 b13 b14 b15).wellFormed c = true := by
  by_cases h : sc ∈ subCommandCodes
  · revert h; revert sc; simp [subCommandCodes, decodeSubCommand, Instr.wellFormed]
  · simp [decodeSubCommand_unknown h, Instr.wellFormed, h]

theorem length_frameOfWord (nbits w : Nat) : (frameOfWord nbits w).length = max 16 ((nbits + 7) / 8) := by
  simp [frameOfWord]

end Sys2Proof
end

