-- ==== Sys2Proof/Laws/State.lean ====
section
/-! SUPPORT. One lemma per field per state update: what the update leaves in the field. -/

namespace Sys2Proof.Machine

@[simp] theorem State.record_conn (s : State) (d : Diag) : (s.record d).conn = s.conn := rfl
@[simp] theorem State.record_seq (s : State) (d : Diag) : (s.record d).seq = s.seq := rfl
@[simp] theorem State.record_rptEn (s : State) (d : Diag) : (s.record d).rptEn = s.rptEn := rfl
@[simp] theorem State.record_fault (s : State) (d : Diag) : (s.record d).fault = s.fault := rfl
@[simp] theorem State.record_input (s : State) (d : Diag) : (s.record d).input = s.input := rfl
@[simp] theorem State.record_cfg (s : State) (d : Diag) : (s.record d).cfg = s.cfg := rfl
@[simp] theorem State.record_rx (s : State) (d : Diag) : (s.record d).rx = s.rx := rfl
@[simp] theorem State.record_sched (s : State) (d : Diag) : (s.record d).sched = s.sched := rfl
@[simp] theorem State.record_tx (s : State) (d : Diag) : (s.record d).tx = s.tx := rfl
@[simp] theorem State.record_owner (s : State) (d : Diag) : (s.record d).owner = s.owner := rfl
@[simp] theorem State.record_diag (s : State) (d : Diag) : (s.record d).diag = s.diag ++ [d] := rfl
@[simp] theorem State.record_sampled (s : State) (d : Diag) : (s.record d).sampled = s.sampled := rfl
@[simp] theorem State.record_runStart (s : State) (d : Diag) : (s.record d).runStart = s.runStart := rfl
@[simp] theorem State.record_runWrites (s : State) (d : Diag) : (s.record d).runWrites = s.runWrites := rfl

@[simp] theorem State.answerOwner_conn (s : State) (r : OwnerResult) : (s.answerOwner r).conn = s.conn := rfl
@[simp] theorem State.answerOwner_seq (s : State) (r : OwnerResult) : (s.answerOwner r).seq = s.seq := rfl
@[simp] theorem State.answerOwner_rptEn (s : State) (r : OwnerResult) : (s.answerOwner r).rptEn = s.rptEn := rfl
@[simp] theorem State.answerOwner_fault (s : State) (r : OwnerResult) : (s.answerOwner r).fault = s.fault := rfl
@[simp] theorem State.answerOwner_input (s : State) (r : OwnerResult) : (s.answerOwner r).input = s.input := rfl
@[simp] theorem State.answerOwner_cfg (s : State) (r : OwnerResult) : (s.answerOwner r).cfg = s.cfg := rfl
@[simp] theorem State.answerOwner_rx (s : State) (r : OwnerResult) : (s.answerOwner r).rx = s.rx := rfl
@[simp] theorem State.answerOwner_sched (s : State) (r : OwnerResult) : (s.answerOwner r).sched = s.sched := rfl
@[simp] theorem State.answerOwner_tx (s : State) (r : OwnerResult) : (s.answerOwner r).tx = s.tx := rfl
@[simp] theorem State.answerOwner_owner (s : State) (r : OwnerResult) :
    (s.answerOwner r).owner = s.owner ++ [r] := rfl
@[simp] theorem State.answerOwner_diag (s : State) (r : OwnerResult) : (s.answerOwner r).diag = s.diag := rfl
@[simp] theorem State.answerOwner_sampled (s : State) (r : OwnerResult) :
    (s.answerOwner r).sampled = s.sampled := rfl
@[simp] theorem State.answerOwner_runStart (s : State) (r : OwnerResult) :
    (s.answerOwner r).runStart = s.runStart := rfl
@[simp] theorem State.answerOwner_runWrites (s : State) (r : OwnerResult) :
    (s.answerOwner r).runWrites = s.runWrites := rfl

@[simp] theorem State.transmit_conn (s : State) (id : Byte) (f : List Byte) : (s.transmit id f).conn = s.conn := rfl
@[simp] theorem State.transmit_seq (s : State) (id : Byte) (f : List Byte) : (s.transmit id f).seq = s.seq := rfl
@[simp] theorem State.transmit_rptEn (s : State) (id : Byte) (f : List Byte) :
    (s.transmit id f).rptEn = s.rptEn := rfl
@[simp] theorem State.transmit_fault (s : State) (id : Byte) (f : List Byte) :
    (s.transmit id f).fault = s.fault := rfl
@[simp] theorem State.transmit_input (s : State) (id : Byte) (f : List Byte) :
    (s.transmit id f).input = s.input := rfl
@[simp] theorem State.transmit_cfg (s : State) (id : Byte) (f : List Byte) : (s.transmit id f).cfg = s.cfg := rfl
@[simp] theorem State.transmit_rx (s : State) (id : Byte) (f : List Byte) : (s.transmit id f).rx = s.rx := rfl
@[simp] theorem State.transmit_sched (s : State) (id : Byte) (f : List Byte) :
    (s.transmit id f).sched = s.sched := rfl
@[simp] theorem State.transmit_tx (s : State) (id : Byte) (f : List Byte) : (s.transmit id f).tx = s.tx ++ [f] := rfl
@[simp] theorem State.transmit_owner (s : State) (id : Byte) (f : List Byte) :
    (s.transmit id f).owner = s.owner := rfl
@[simp] theorem State.transmit_diag (s : State) (id : Byte) (f : List Byte) :
    (s.transmit id f).diag = if id = ridInput then s.diag else s.diag ++ [.frameOut f] := rfl
@[simp] theorem State.transmit_sampled (s : State) (id : Byte) (f : List Byte) :
    (s.transmit id f).sampled = s.sampled := rfl
@[simp] theorem State.transmit_runStart (s : State) (id : Byte) (f : List Byte) :
    (s.transmit id f).runStart = s.runStart := rfl
@[simp] theorem State.transmit_runWrites (s : State) (id : Byte) (f : List Byte) :
    (s.transmit id f).runWrites = s.runWrites := rfl

@[simp] theorem State.closeRun_conn (s : State) : s.closeRun.conn = s.conn := rfl
@[simp] theorem State.closeRun_seq (s : State) : s.closeRun.seq = s.seq := rfl
@[simp] theorem State.closeRun_rptEn (s : State) : s.closeRun.rptEn = s.rptEn := rfl
@[simp] theorem State.closeRun_fault (s : State) : s.closeRun.fault = s.fault := rfl
@[simp] theorem State.closeRun_input (s : State) : s.closeRun.input = s.input := rfl
@[simp] theorem State.closeRun_cfg (s : State) : s.closeRun.cfg = s.cfg := rfl
@[simp] theorem State.closeRun_rx (s : State) : s.closeRun.rx = s.rx := rfl
@[simp] theorem State.closeRun_sched (s : State) : s.closeRun.sched = s.sched := rfl
@[simp] theorem State.closeRun_tx (s : State) : s.closeRun.tx = s.tx := rfl
@[simp] theorem State.closeRun_owner (s : State) : s.closeRun.owner = s.owner := rfl
@[simp] theorem State.closeRun_diag (s : State) : s.closeRun.diag = s.diag := rfl
@[simp] theorem State.closeRun_sampled (s : State) : s.closeRun.sampled = s.sampled := rfl
@[simp] theorem State.closeRun_runStart (s : State) : s.closeRun.runStart = s.input := rfl
@[simp] theorem State.closeRun_runWrites (s : State) : s.closeRun.runWrites = [] := rfl

@[simp] theorem State.beginSnapshot_conn (s : State) (t : Tear) : (s.beginSnapshot t).conn = s.conn := rfl
@[simp] theorem State.beginSnapshot_seq (s : State) (t : Tear) : (s.beginSnapshot t).seq = s.seq := rfl
@[simp] theorem State.beginSnapshot_rptEn (s : State) (t : Tear) : (s.beginSnapshot t).rptEn = s.rptEn := rfl
@[simp] theorem State.beginSnapshot_fault (s : State) (t : Tear) : (s.beginSnapshot t).fault = s.fault := rfl
@[simp] theorem State.beginSnapshot_input (s : State) (t : Tear) : (s.beginSnapshot t).input = s.input := rfl
@[simp] theorem State.beginSnapshot_cfg (s : State) (t : Tear) : (s.beginSnapshot t).cfg = s.cfg := rfl
@[simp] theorem State.beginSnapshot_rx (s : State) (t : Tear) : (s.beginSnapshot t).rx = s.rx := rfl
@[simp] theorem State.beginSnapshot_sched (s : State) (t : Tear) : (s.beginSnapshot t).sched = s.sched := rfl
@[simp] theorem State.beginSnapshot_tx (s : State) (t : Tear) : (s.beginSnapshot t).tx = s.tx := rfl
@[simp] theorem State.beginSnapshot_owner (s : State) (t : Tear) : (s.beginSnapshot t).owner = s.owner := rfl
@[simp] theorem State.beginSnapshot_diag (s : State) (t : Tear) : (s.beginSnapshot t).diag = s.diag := rfl
@[simp] theorem State.beginSnapshot_sampled (s : State) (t : Tear) :
    (s.beginSnapshot t).sampled = sampleInput t s.runStart (s.runWrites ++ writesNext s.rx.isEmpty s.sched) s.input := rfl
@[simp] theorem State.beginSnapshot_runStart (s : State) (t : Tear) : (s.beginSnapshot t).runStart = s.input := rfl
@[simp] theorem State.beginSnapshot_runWrites (s : State) (t : Tear) : (s.beginSnapshot t).runWrites = [] := rfl

end Sys2Proof.Machine
end

