-- ==== Sys2Proof/Laws/Ops.lean ====
section
/-! SUPPORT. What each shared operation does, said once: `send`, the two reply builders, the optional echo, and `raise`. -/

namespace Sys2Proof.Machine

/-- A payload that fits is transmitted, padded to 64 bytes. -/
theorem send_of_le {id b1 : Byte} {payload : List Byte} (s : State) (h : payload.length ≤ 62) :
    send id b1 payload s = s.transmit id ([id, b1] ++ payload ++ zeros (62 - payload.length)) := by
  simp [send, frame_of_le h]

/-- A payload that does not fit sets FAULT and transmits nothing. -/
theorem send_of_gt {id b1 : Byte} {payload : List Byte} (s : State) (h : 62 < payload.length) :
    send id b1 payload s = { s with fault := true } := by
  simp [send, frame_of_gt h, raise]

/-- A handshake reply that fits. -/
theorem hsReply_of_le {code : Byte} {payload : List Byte} (s : State) (h : payload.length ≤ 62) :
    hsReply code payload s = s.sent ([0x81, code] ++ payload ++ zeros (62 - payload.length)) :=
  send_of_le s h

/-- A sub-command reply with at most 49 data bytes is the O21 frame of the state. -/
theorem subReply_of_le {acked : Bool} {sc : Byte} {data : List Byte} (s : State) (h : data.length ≤ 49) :
    subReply acked sc data s = s.sent (replyFrame s (ackByte acked sc data.length) sc data) := by
  have hl : (snapshot s.cfg s.sampled ++ [ackByte acked sc data.length, sc] ++ data).length = 13 + data.length := by
    simp only [List.length_append, snapshot_length, List.length_cons, List.length_nil]
  rw [subReply, send_of_le s (by omega), hl, show 62 - (13 + data.length) = 49 - data.length by omega]
  simp [State.transmit, State.sent, replyFrame, ridSubReply, ridInput]

/-- The periodic report's payload always fits. -/
theorem send_snapshot (s : State) :
    send ridInput s.seq (snapshot s.cfg s.sampled) s =
      { s with tx := s.tx ++ [[0x30, s.seq] ++ snapshot s.cfg s.sampled ++ zeros 51] } :=
  send_of_le s (by simp)

theorem echoCommand_off {code : Byte} {s : State} (h : s.cfg.pEchoEn = false) : echoCommand code s = s := by
  simp [echoCommand, h]

theorem echoCommand_on {code : Byte} {s : State} (h : s.cfg.pEchoEn = true) :
    echoCommand code s = s.sent ([0x81, code] ++ zeros 62) := by
  simpa [echoCommand, h] using hsReply_of_le (code := code) (payload := []) s (by simp)

@[simp] theorem raise_notFound (s : State) : raise .notFound s = s := rfl
@[simp] theorem raise_shortFrame (len : Nat) (s : State) :
    raise (.shortFrame len) s = s.record (.raised (.shortFrame len)) := rfl
@[simp] theorem raise_unknownReport (rid : Byte) (s : State) :
    raise (.unknownReport rid) s = s.record (.raised (.unknownReport rid)) := rfl
@[simp] theorem raise_unknownHandshake (code : Byte) (s : State) :
    raise (.unknownHandshake code) s = s.record (.raised (.unknownHandshake code)) := rfl
@[simp] theorem raise_unknownSubcommand (sc : Byte) (s : State) :
    raise (.unknownSubcommand sc) s = s.record (.raised (.unknownSubcommand sc)) := rfl
@[simp] theorem raise_frameOverflow (s : State) : raise .frameOverflow s = { s with fault := true } := rfl
@[simp] theorem raise_alreadyConnected (s : State) :
    raise .alreadyConnected s = s.answerOwner .alreadyConnected := rfl
@[simp] theorem raise_deviceOpenFailed (s : State) :
    raise .deviceOpenFailed s = s.answerOwner .deviceOpenFailed := rfl
@[simp] theorem raise_notConnected (s : State) : raise .notConnected s = raiseNotConnected s := rfl

/-- The reading of R192, R34 and R200: a diagnostic only. -/
theorem raiseNotConnected_diagnosticOnly {s : State} (h : s.cfg.notConnectedToOwner = false) :
    raiseNotConnected s = s.record (.raised .notConnected) := by
  simp [raiseNotConnected, h]

/-- The reading of R206: the owner gets the result as well. -/
theorem raiseNotConnected_toOwner {s : State} (h : s.cfg.notConnectedToOwner = true) :
    raiseNotConnected s = (s.record (.raised .notConnected)).answerOwner .notConnected := by
  simp [raiseNotConnected, h]

/-- In either reading nothing but the diagnostics and the owner's results changes. -/
theorem raiseNotConnected_records (s : State) :
    ∃ owner, raiseNotConnected s = { s with diag := s.diag ++ [.raised .notConnected], owner := owner } := by
  unfold raiseNotConnected
  split
  · exact ⟨_, rfl⟩
  · exact ⟨s.owner, rfl⟩

end Sys2Proof.Machine
end

