-- ==== Sys2Proof/Laws/PerInstr.lean ====
section
/-! SUPPORT. A family of statements made per instruction: the canonical frame of a command (R77) has the minimum length
of its format and the report identifier of its format (R60 to R64). -/

namespace Sys2Proof.Laws

/-- The minimum length of a command's format (R61, R62, R64). -/
def minLength : Instr → Nat
  | .hsInit => 2
  | .hsBaud2 => 2
  | .hsBaud3 => 2
  | .hsRptOn => 2
  | .hsRptOff => 2
  | .hsUnk _ => 2
  | .subPair => 16
  | .subDevinfo => 16
  | .subCfg03 => 16
  | .subTime => 16
  | .subCfg08 => 16
  | .subSpird _ _ _ _ _ => 16
  | .subVib => 16
  | .subCfg30 => 16
  | .subCfg38 => 16
  | .subCfg40 => 16
  | .subCfg41 => 16
  | .subCfg48 => 16
  | .subUnk _ => 16
  | .ignore _ => 1
  | .rptUnk _ => 1

/-- The report identifier of a command's format (R60). -/
def reportId (c : Config) : Instr → Byte
  | .hsInit => ridUsbCmd
  | .hsBaud2 => ridUsbCmd
  | .hsBaud3 => ridUsbCmd
  | .hsRptOn => ridUsbCmd
  | .hsRptOff => ridUsbCmd
  | .hsUnk _ => ridUsbCmd
  | .subPair => c.ridFullOut
  | .subDevinfo => c.ridFullOut
  | .subCfg03 => c.ridFullOut
  | .subTime => c.ridFullOut
  | .subCfg08 => c.ridFullOut
  | .subSpird _ _ _ _ _ => c.ridFullOut
  | .subVib => c.ridFullOut
  | .subCfg30 => c.ridFullOut
  | .subCfg38 => c.ridFullOut
  | .subCfg40 => c.ridFullOut
  | .subCfg41 => c.ridFullOut
  | .subCfg48 => c.ridFullOut
  | .subUnk _ => c.ridFullOut
  | .ignore rid => rid
  | .rptUnk rid => rid

/-- The canonical frame of `i` has the length and the identifier of its format. -/
def EncodedFormat.Statement (i : Instr) : Prop :=
  ∀ c : Config, (encode c i).length = minLength i ∧ byteAt (encode c i) 0 = reportId c i

theorem EncodedFormat.hsInit : EncodedFormat.Statement .hsInit := fun _ => ⟨rfl, rfl⟩
theorem EncodedFormat.hsBaud2 : EncodedFormat.Statement .hsBaud2 := fun _ => ⟨rfl, rfl⟩
theorem EncodedFormat.hsBaud3 : EncodedFormat.Statement .hsBaud3 := fun _ => ⟨rfl, rfl⟩
theorem EncodedFormat.hsRptOn : EncodedFormat.Statement .hsRptOn := fun _ => ⟨rfl, rfl⟩
theorem EncodedFormat.hsRptOff : EncodedFormat.Statement .hsRptOff := fun _ => ⟨rfl, rfl⟩
theorem EncodedFormat.hsUnk (code : Byte) : EncodedFormat.Statement (.hsUnk code) := fun _ => ⟨rfl, rfl⟩
theorem EncodedFormat.subPair : EncodedFormat.Statement .subPair := fun _ => ⟨rfl, rfl⟩
theorem EncodedFormat.subDevinfo : EncodedFormat.Statement .subDevinfo := fun _ => ⟨rfl, rfl⟩
theorem EncodedFormat.subCfg03 : EncodedFormat.Statement .subCfg03 := fun _ => ⟨rfl, rfl⟩
theorem EncodedFormat.subTime : EncodedFormat.Statement .subTime := fun _ => ⟨rfl, rfl⟩
theorem EncodedFormat.subCfg08 : EncodedFormat.Statement .subCfg08 := fun _ => ⟨rfl, rfl⟩
theorem EncodedFormat.subSpird (off bank hdr13 hdr14 n : Byte) : EncodedFormat.Statement (.subSpird off bank hdr13 hdr14 n) := fun _ => ⟨rfl, rfl⟩
theorem EncodedFormat.subVib : EncodedFormat.Statement .subVib := fun _ => ⟨rfl, rfl⟩
theorem EncodedFormat.subCfg30 : EncodedFormat.Statement .subCfg30 := fun _ => ⟨rfl, rfl⟩
theorem EncodedFormat.subCfg38 : EncodedFormat.Statement .subCfg38 := fun _ => ⟨rfl, rfl⟩
theorem EncodedFormat.subCfg40 : EncodedFormat.Statement .subCfg40 := fun _ => ⟨rfl, rfl⟩
theorem EncodedFormat.subCfg41 : EncodedFormat.Statement .subCfg41 := fun _ => ⟨rfl, rfl⟩
theorem EncodedFormat.subCfg48 : EncodedFormat.Statement .subCfg48 := fun _ => ⟨rfl, rfl⟩
theorem EncodedFormat.subUnk (sc : Byte) : EncodedFormat.Statement (.subUnk sc) := fun _ => ⟨rfl, rfl⟩
theorem EncodedFormat.ignore (rid : Byte) : EncodedFormat.Statement (.ignore rid) := fun _ => ⟨rfl, rfl⟩
theorem EncodedFormat.rptUnk (rid : Byte) : EncodedFormat.Statement (.rptUnk rid) := fun _ => ⟨rfl, rfl⟩

end Sys2Proof.Laws
end

