-- ==== Sys2Proof/Laws/Sampling.lean ====
section
/-! SUPPORT. The reads of the InputState: one field of a sample, a read that is not torn, and the lists of writes. -/

namespace Sys2Proof.Machine

/-- Each field of a sample is read in its own view (R31, R50). -/
theorem sampleInput_get (t : Tear) (base : InputState) (ws : List InputWrite) (cur : InputState) (f : InputField) :
    (sampleInput t base ws cur).get f = (fieldView t base ws cur f).get f := by
  rcases f with (_ | _ | _ | _) | (_ | _ | _ | _ | _ | _ | _ | _ | _ | _ | _ | _) | (_ | _) | (_ | _) | (_ | _) <;> rfl

/-- With no field listed, every field is read at the event's place. -/
@[simp] theorem sampleInput_nil (base : InputState) (ws : List InputWrite) (cur : InputState) :
    sampleInput [] base ws cur = cur := rfl

@[simp] theorem writeAll_nil (i : InputState) : i.writeAll [] = i := rfl

@[simp] theorem writeAll_append_one (i : InputState) (ws : List InputWrite) (w : InputWrite) :
    i.writeAll (ws ++ [w]) = (i.writeAll ws).write w := by
  simp [InputState.writeAll]

@[simp] theorem writesNext_nil (rxEmpty : Bool) : writesNext rxEmpty [] = [] := rfl

end Sys2Proof.Machine
end

