-- ==== Sys2Proof/Tests/Slice0.lean ====
section
/-! SUPPORT. The model's own tests: what WellFormed refuses, every command's word from the spec's encoding, one-step
vectors of 95_test_vectors.md, and a witness for the hypotheses of every statement that has some. The expected bytes
are the spec's. -/

namespace Sys2Proof.Tests

open Sys2Proof Sys2Proof.Machine

-- One theorem at a time: elaborated side by side, so many would need more threads than the memory limit allows.
set_option Elab.async false

/-! ## The test configuration (95_test_vectors.md section 0) -/

/-- TESTCFG. -/
def testCfg : Config where
  snapHdr := 0x8e
  sub01Reply := #v[0xd1, 0xd2]
  sub02Reply := #v[0xe0, 0xe1, 0xe2, 0xe3, 0xe4, 0xe5, 0xe6, 0xe7, 0xe8, 0xe9, 0xea, 0xeb]
  sub21Reply := #v[0xf0, 0xf1, 0xf2, 0xf3, 0xf4, 0xf5, 0xf6, 0xf7]
  calA := (List.range 64).map (fun i => BitVec.ofNat 8 (0xa0 + i))
  calB := (List.range 24).map (fun i => BitVec.ofNat 8 (0x40 + i))
  dpadW := 8
  rxMax := 64
  ridFullOut := 0x01
  ridIgnored := [0x10]
  calBankB := 0x80
  pEchoEn := false
  notConnectedToOwner := false

/-- The neutral InputState. -/
def neutral : InputState where
  dpad := ⟨0, 0, 0, 0⟩
  button := ⟨false, false, false, false, false, false, false, false, false, false, false, false⟩
  stickLeft := ⟨0, 0, false⟩
  stickRight := ⟨0, 0, false⟩

/-- A block just created. -/
def created : State := State.creation testCfg neutral 0x55

/-- Mode IDLE with SEQ = 0. -/
def idle : State := { created with conn := true, seq := 0 }

/-- Mode REPORTING with SEQ = 0x2a. -/
def reporting : State := { created with conn := true, seq := 0x2a, rptEn := true }

/-- The state in which the next event is the arrival of `F`. -/
def offering (F : List Byte) (s : State) : State := { s with rx := [F], sched := [.rx []] }

/-- The result of one step, if it is a next state. -/
def after (s : State) : Option State :=
  match step s with
  | .next t => some t
  | .fault _ => none
  | .refused _ => none

/-- What a step transmits, and CONN, SEQ, RPT_EN, FAULT after it. -/
def shows (s : State) : Option (List (List Byte) × Bool × Byte × Bool × Bool) :=
  (after s).map fun t => (t.tx, t.conn, t.seq, t.rptEn, t.fault)

/-- The neutral snapshot under TESTCFG, `<N>`. -/
def neutralSnapshot : List Byte := [0x8e, 0x00, 0x00, 0x00, 0x00, 0x08, 0x80, 0x00, 0x08, 0x80, 0x00]

/-- A frame of the given bytes filled with zeros to 64, `..`. -/
def filled (bytes : List Byte) : List Byte := bytes ++ zeros (64 - bytes.length)

/-- A 16-byte full output report, arguments zero. -/
def fullOut (sc : Byte) : List Byte := [0x01, 0, 0, 0, 0, 0, 0, 0, 0, 0, sc, 0, 0, 0, 0, 0]

/-- A 16-byte calibration read request (R63). -/
def spird (off bank b13 b14 n : Byte) : List Byte := [0x01, 0, 0, 0, 0, 0, 0, 0, 0, 0, 0x10, off, bank, b13, b14, n]

/-- The reply to a full output report from `idle`. -/
def idleReply (ack sc : Byte) (data : List Byte) : List Byte :=
  filled ([0x21, 0x00] ++ neutralSnapshot ++ [ack, sc] ++ data)

/-! ## WellFormed refuses each ill-formed term (R72, R73, R78) -/

theorem test_wf_refuses_hsUnk_of_a_known_code :
    handshakeCodes.all (fun code => !(Instr.hsUnk code).wellFormed testCfg) = true := by decide

theorem test_wf_refuses_subUnk_of_a_known_code :
    subCommandCodes.all (fun sc => !(Instr.subUnk sc).wellFormed testCfg) = true := by decide

theorem test_wf_refuses_ignore_of_another_identifier :
    [0x80, 0x01, 0x11].all (fun rid => !(Instr.ignore rid).wellFormed testCfg) = true := by decide

theorem test_wf_refuses_rptUnk_of_another_identifier :
    [0x80, 0x01, 0x10].all (fun rid => !(Instr.rptUnk rid).wellFormed testCfg) = true := by decide

theorem test_wf_accepts_a_term_of_each_checked_kind :
    [Instr.hsUnk 0x06, .subUnk 0x11, .ignore 0x10, .rptUnk 0x81, .subSpird 1 2 3 4 5].all (·.wellFormed testCfg)
      = true := by decide

theorem test_config_wf_accepts_testCfg : testCfg.wf = true := by decide

theorem test_config_wf_refuses_identifiers :
    ({ testCfg with ridFullOut := 0x80 }.wf || { testCfg with ridIgnored := [0x01] }.wf ||
      { testCfg with calBankB := 0x60 }.wf) = false := by decide

theorem test_config_wf_refuses_sizes :
    ({ testCfg with calA := zeros 15 }.wf || { testCfg with calA := zeros 257 }.wf ||
      { testCfg with calB := zeros 257 }.wf || { testCfg with dpadW := 0 }.wf || { testCfg with rxMax := 15 }.wf)
      = false := by decide +kernel

theorem test_config_wf_accepts_boundary_sizes :
    ({ testCfg with calA := zeros 16, calB := [] }.wf && { testCfg with calA := zeros 256, calB := zeros 256 }.wf &&
      { testCfg with dpadW := 1, rxMax := 16 }.wf) = true := by decide +kernel

/-! ## Every command's word, written from R61 to R64, R72, R73 -/

theorem test_decode_handshake_words :
    decode testCfg [0x80, 0x01] = .ok .hsInit ∧ decode testCfg [0x80, 0x02] = .ok .hsBaud2 ∧
    decode testCfg [0x80, 0x03] = .ok .hsBaud3 ∧ decode testCfg [0x80, 0x04] = .ok .hsRptOn ∧
    decode testCfg [0x80, 0x05] = .ok .hsRptOff ∧ decode testCfg [0x80, 0x00] = .ok (.hsUnk 0x00) ∧
    decode testCfg [0x80, 0x06] = .ok (.hsUnk 0x06) ∧ decode testCfg [0x80, 0xff] = .ok (.hsUnk 0xff) := by decide

theorem test_decode_sub_command_words :
    decode testCfg (fullOut 0x01) = .ok .subPair ∧ decode testCfg (fullOut 0x02) = .ok .subDevinfo ∧
    decode testCfg (fullOut 0x03) = .ok .subCfg03 ∧ decode testCfg (fullOut 0x04) = .ok .subTime ∧
    decode testCfg (fullOut 0x08) = .ok .subCfg08 ∧ decode testCfg (fullOut 0x21) = .ok .subVib ∧
    decode testCfg (fullOut 0x30) = .ok .subCfg30 ∧ decode testCfg (fullOut 0x38) = .ok .subCfg38 ∧
    decode testCfg (fullOut 0x40) = .ok .subCfg40 ∧ decode testCfg (fullOut 0x41) = .ok .subCfg41 ∧
    decode testCfg (fullOut 0x48) = .ok .subCfg48 ∧ decode testCfg (fullOut 0x11) = .ok (.subUnk 0x11) := by decide

theorem test_decode_calibration_read_word :
    decode testCfg [0x01, 0xf1, 0xf2, 0xf3, 0xf4, 0xf5, 0xf6, 0xf7, 0xf8, 0xf9, 0x10, 0x08, 0x80, 0xaa, 0xbb, 0x0c] =
      .ok (.subSpird 0x08 0x80 0xaa 0xbb 0x0c) := by decide

/-- V-R-7 to V-R-12. -/
theorem test_decode_other_identifiers :
    decode testCfg [0x10] = .ok (.ignore 0x10) ∧ decode testCfg [0x10, 0x05, 0x00, 0x01] = .ok (.ignore 0x10) ∧
    decode testCfg [0x00] = .ok (.rptUnk 0x00) ∧ decode testCfg [0xa2, 0x01, 0x02] = .ok (.rptUnk 0xa2) ∧
    decode testCfg [0x81, 0x01] = .ok (.rptUnk 0x81) := by decide

/-- V-R-1 to V-R-6. -/
theorem test_decode_short_frames :
    decode testCfg [] = .error (.shortFrame 0) ∧ decode testCfg [0x80] = .error (.shortFrame 1) ∧
    decode testCfg [0x01] = .error (.shortFrame 1) ∧
    decode testCfg ((fullOut 0x02).take 11) = .error (.shortFrame 11) ∧
    decode testCfg ((fullOut 0x11).take 15) = .error (.shortFrame 15) := by decide

/-- The table's own bits: 80 then 05, and a full output report with 0x10 at byte 10 and 0x2d at byte 15. -/
theorem test_decodeTableWord :
    decodeTableWord 128 0x0580 = some .hsRptOff ∧
    decodeTableWord 128 0x2d000060001000000000000000000001 = some (.subSpird 0x00 0x60 0x00 0x00 0x2d) ∧
    decodeTableWord 8 0x10 = some (.ignore 0x10) := by decide +kernel

/-- A placed word is the next thing that runs from the state after reset. -/
theorem test_withFetchWord_runs :
    (after (State.reset.withFetchWord 128 0x0480)).map (fun t => (t.conn, t.rptEn, t.rx, t.sched)) =
      some (true, true, [], []) := by decide +kernel

/-! ## Handshake commands (2.8) -/

/-- V-H-1 and V-H-12. -/
theorem test_hsInit :
    shows (offering [0x80, 0x01] idle) = some ([filled [0x81, 0x01, 0x00, 0x03, 0x00, 0x00, 0x5e, 0x00, 0x53, 0x5e]],
      true, 0x00, false, false) ∧
    shows (offering [0x80, 0x01] reporting) =
      some ([filled [0x81, 0x01, 0x00, 0x03, 0x00, 0x00, 0x5e, 0x00, 0x53, 0x5e]], true, 0x2a, true, false) := by
  decide +kernel

/-- V-H-2. -/
theorem test_hsBaud2 :
    shows (offering [0x80, 0x02] idle) = some ([filled [0x81, 0x02]], true, 0x00, false, false) := by decide +kernel

/-- V-H-3. -/
theorem test_hsBaud3 :
    shows (offering [0x80, 0x03] idle) = some ([filled [0x81, 0x03]], true, 0x00, false, false) := by decide +kernel

/-- V-H-4 and V-H-11. -/
theorem test_hsRptOn :
    shows (offering [0x80, 0x04] idle) = some ([], true, 0x00, true, false) ∧
    shows (offering [0x80, 0x04] reporting) = some ([], true, 0x2a, true, false) := by decide +kernel

/-- V-H-5, and the optional echo of R138. -/
theorem test_hsRptOff :
    shows (offering [0x80, 0x05] reporting) = some ([], true, 0x2a, false, false) ∧
    shows (offering [0x80, 0x05] { reporting with cfg := { testCfg with pEchoEn := true } }) =
      some ([filled [0x81, 0x05]], true, 0x2a, false, false) := by decide +kernel

/-- V-H-7. -/
theorem test_hsUnk : shows (offering [0x80, 0x06] idle) = some ([], true, 0x00, false, false) := by decide +kernel

/-! ## Sub-commands (2.9) -/

/-- V-SUB-16: bytes past 15 are not read. -/
theorem test_subPair :
    shows (offering (fullOut 0x01 ++ List.replicate 48 0xee) idle) =
      some ([idleReply 0x81 0x01 [0xd1, 0xd2]], true, 0x00, false, false) := by decide +kernel

/-- V-SUB-2. -/
theorem test_subDevinfo :
    shows (offering (fullOut 0x02) idle) =
      some ([idleReply 0x82 0x02 [0xe0, 0xe1, 0xe2, 0xe3, 0xe4, 0xe5, 0xe6, 0xe7, 0xe8, 0xe9, 0xea, 0xeb]],
        true, 0x00, false, false) := by decide +kernel

/-- V-SUB-3, V-SUB-5, V-SUB-6 to V-SUB-10. -/
theorem test_subCfg :
    [0x03, 0x08, 0x30, 0x38, 0x40, 0x41, 0x48].map (fun sc => shows (offering (fullOut sc) idle)) =
      [0x03, 0x08, 0x30, 0x38, 0x40, 0x41, 0x48].map (fun sc =>
        some ([idleReply 0x80 sc []], true, 0x00, false, false)) := by decide +kernel

/-- V-SUB-17: the reply carries SEQ and the live snapshot. -/
theorem test_subTime :
    shows (offering (fullOut 0x04) { idle with
      seq := 0xc5, rptEn := true
      input := { neutral with button := { neutral.button with a := true }, stickLeft := ⟨1 / 2, -1 / 2, false⟩ } }) =
      some ([filled [0x21, 0xc5, 0x8e, 0x08, 0x00, 0x00, 0x00, 0x0c, 0x40, 0x00, 0x08, 0x80, 0x00, 0x80, 0x04]],
        true, 0xc5, true, false) := by decide +kernel

/-- V-SUB-12: acknowledged whatever the arguments. -/
theorem test_subVib :
    shows (offering [0x01, 0xff, 0xff, 0xff, 0xff, 0xff, 0xff, 0xff, 0xff, 0xff, 0x21, 0x12, 0x34, 0x56, 0x78, 0x9a]
      idle) = some ([idleReply 0xa1 0x21 [0xf0, 0xf1, 0xf2, 0xf3, 0xf4, 0xf5, 0xf6, 0xf7]],
        true, 0x00, false, false) := by decide +kernel

/-- V-SPI-11, V-SPI-4, V-SPI-2: bytes 13 and 14 are echoed; out of bounds and unknown banks are NACKs. -/
theorem test_subSpird_replies :
    [spird 0x08 0x80 0xaa 0xbb 0x08, spird 60 0x60 0 0 5, spird 0 0x99 0 0 255].map
        (fun F => shows (offering F idle)) =
      [idleReply 0x90 0x10 [0x08, 0x80, 0xaa, 0xbb, 0x08, 0x48, 0x49, 0x4a, 0x4b, 0x4c, 0x4d, 0x4e, 0x4f],
        idleReply 0x00 0x10 [], idleReply 0x00 0x10 []].map (fun f => some ([f], true, 0x00, false, false)) := by
  decide +kernel

/-- V-SPI-15 and V-SPI-16: 44 bytes fill the frame, 45 overflow it. -/
theorem test_subSpird_capacity :
    shows (offering (spird 20 0x60 0 0 44) idle) =
      some ([[0x21, 0x00] ++ neutralSnapshot ++ [0x90, 0x10, 0x14, 0x60, 0x00, 0x00, 0x2c] ++
        (List.range 44).map (fun i => BitVec.ofNat 8 (0xb4 + i))], true, 0x00, false, false) ∧
    shows (offering (spird 19 0x60 0 0 45) idle) = some ([], true, 0x00, false, true) := by decide +kernel

/-- V-SUB-13. -/
theorem test_subUnk : shows (offering (fullOut 0x11) idle) = some ([], true, 0x00, false, false) := by decide +kernel

/-! ## Other frames (2.10) -/

/-- V-R-8: no frame, no state, no diagnostic but the arrival. -/
theorem test_ignore :
    (after (offering [0x10, 0x05, 0x00, 0x01] idle)).map (fun t => (t.tx, t.diag)) =
      some ([], [.frameIn [0x10, 0x05, 0x00, 0x01]]) := by decide +kernel

/-- V-R-10. -/
theorem test_rptUnk :
    (after (offering [0xa2, 0x01, 0x02] idle)).map (fun t => (t.tx, t.diag)) =
      some ([], [.frameIn [0xa2, 0x01, 0x02], .raised (.unknownReport 0xa2)]) := by decide +kernel

/-- V-R-5: a frame of 15 bytes is dropped, and the next frame is at the head of the transport. -/
theorem test_shortFrame :
    shows (offering ((fullOut 0x02).take 15) idle) = some ([], true, 0x00, false, false) ∧
    (after { idle with rx := [(fullOut 0x02).take 15, [0x80, 0x01]], sched := [.rx [], .rx []] }).map
      (fun t => (t.rx, t.sched)) = some ([[0x80, 0x01]], [.rx []]) := by decide +kernel

/-- V-R-14: no frame is taken while CONN = 0. -/
theorem test_frame_waits_while_disconnected :
    (after (offering [0x80, 0x01] created)).map (fun t => (t.tx, t.rx)) = some ([], [[0x80, 0x01]]) := by
  decide +kernel

/-! ## Ticks, lifecycle, input (2.11, P3) -/

theorem test_tickSeq_wraps :
    shows { idle with seq := 0xff, sched := [.tickSeq] } = some ([], true, 0x00, false, false) ∧
    shows { created with sched := [.tickSeq] } = some ([], false, 0x55, false, false) := by decide +kernel

/-- R175's example, and a strobe while disabled. -/
theorem test_tickRpt :
    shows { reporting with sched := [.tickRpt []] } =
      some ([filled ([0x30, 0x2a] ++ neutralSnapshot)], true, 0x2a, true, false) ∧
    shows { idle with sched := [.tickRpt []] } = some ([], true, 0x00, false, false) := by decide +kernel

theorem test_connect :
    [{ created with sched := [.connect true] }, { reporting with sched := [.connect false] },
      { created with sched := [.connect false] }].map
        (fun s => (after s).map (fun t => (t.conn, t.seq, t.rptEn, t.owner))) =
      [some (true, 0x00, false, [.ok]), some (true, 0x2a, true, [.alreadyConnected]),
        some (false, 0x55, false, [.deviceOpenFailed])] := by decide +kernel

/-- V-L-6 (TESTCFG with the reading the vector has), and R206's reading. -/
theorem test_close :
    shows { reporting with sched := [.close] } = some ([], false, 0x2a, false, false) ∧
    [false, true].map (fun b =>
      (after { created with cfg := { testCfg with notConnectedToOwner := b }, sched := [.close] }).map
        (fun t => (t.conn, t.diag, t.owner))) =
      [some (false, [.raised .notConnected], []), some (false, [.raised .notConnected], [.notConnected])] := by
  decide +kernel

/-- A torn read (R50): the snapshot may show a write that stands after the tick, and may miss one that stands before. -/
theorem test_torn_read :
    ((after { reporting with sched := [.tickRpt [(.button .a, 1)], .inputWrite (.button .a true)] }).map
      (fun t => (t.tx.map (byteAt · 3), t.input.button.a)) = some ([0x08], false)) ∧
    ((after { reporting with
        input := { neutral with button := { neutral.button with a := true } }
        runWrites := [.button .a true], sched := [.tickRpt [(.button .a, 0)]] }).map
      (fun t => (t.tx.map (byteAt · 3), t.input.button.a)) = some ([0x00], true)) := by decide +kernel

/-! ## The codec (2.1 to 2.7) -/

/-- V-Q-1, 2, 3, 7, 8, 12, 13, 15, 18. -/
theorem test_quantize :
    [0, -1, 1, 1 / 4096, -1 / 4096, -1 / 3, -4095 / 4096, 8191 / 8192, -2].map quantize =
      [2048, 0, 4095, 2049, 2048, 1365, 1, 4095, 0] := by decide +kernel

/-- V-P-4, V-P-6, V-P-7. -/
theorem test_pack :
    pack12 0x123 0x456 = [0x23, 0x61, 0x45] ∧ pack12 4095 0 = [0xff, 0x0f, 0x00] ∧
    pack12 0 4095 = [0x00, 0xf0, 0xff] ∧ unpack12 0x23 0x61 0x45 = (0x123, 0x456) := by decide

/-- V-S-4: the fields of V-G-23, a clamped axis, both sticks. -/
theorem test_snapshot :
    snapshot testCfg
      { dpad := ⟨0, 1, 255, 0⟩
        button := ⟨false, true, true, true, true, true, false, false, false, true, true, true⟩
        stickLeft := ⟨1, -1, true⟩, stickRight := ⟨1 / 10, -1 / 3, true⟩ } =
      [0x8e, 0x47, 0x2f, 0x49, 0xff, 0x0f, 0x00, 0xcd, 0x58, 0x55, 0x00] := by decide +kernel

/-- V-G-24. -/
theorem test_group_bytes :
    let i := { neutral with
      dpad := ⟨2, 0, 0, 0⟩, button := { neutral.button with a := true, home := true } }
    (groupLeft i, groupCenter i, groupRight i) = (0x08, 0x10, 0x02) := by decide +kernel

/-- V-C-2, 4, 5, 8, 12. -/
theorem test_calRead :
    calRead testCfg 0x60 60 4 = .ok [0xdc, 0xdd, 0xde, 0xdf] ∧ calRead testCfg 0x60 64 0 = .ok [] ∧
    calRead testCfg 0x60 65 0 = .error .notFound ∧ calRead testCfg 0x60 250 10 = .error .notFound ∧
    calRead testCfg 0x99 0 0 = .error .notFound := by decide +kernel

/-! ## Witnesses: states and operands that meet the hypotheses of each statement -/

/-- A state REPORTING whose trace holds one frame, with a write in the current run. -/
def busy : State :=
  { reporting with
    input := { neutral with button := { neutral.button with a := true } }
    runWrites := [.button .a true]
    tx := [filled ([0x30, 0x29] ++ neutralSnapshot)] }

theorem witness_CreationAndConnectReset : testCfg.wf = true ∧ created.conn = false := by decide

theorem witness_CreateRefusesBadConfiguration :
    create testCfg neutral 0 = .next { created with seq := 0 } ∧
    create { testCfg with calBankB := 0x60 } neutral 0 = .refused .configurationRefused := ⟨rfl, rfl⟩

theorem witness_ConnectHasThreeResults :
    ({ idle with sched := [.connect true] }.conn = true ∧
      { idle with sched := [.connect true] }.sched = .connect true :: []) ∧
    ({ created with sched := [.connect false] }.conn = false ∧
      { created with sched := [.connect false] }.sched = .connect false :: []) ∧
    ({ created with sched := [.connect true] }.conn = false ∧
      { created with sched := [.connect true] }.sched = .connect true :: []) := by decide +kernel

theorem witness_CloseStopsAndKeepsSeq :
    ({ idle with sched := [.close] }.conn = true ∧ { idle with sched := [.close] }.sched = .close :: []) ∧
    ({ created with sched := [.close] }.conn = false ∧ { created with sched := [.close] }.sched = .close :: []) ∧
    created.cfg.notConnectedToOwner = false ∧
    { created with cfg := { testCfg with notConnectedToOwner := true } }.cfg.notConnectedToOwner = true := by
  decide +kernel

theorem witness_InputWriteChangesOneField :
    { created with sched := [.inputWrite (.stickX .left 7)] }.sched = .inputWrite (.stickX .left 7) :: [] ∧
    InputField.stickY .left ≠ InputWrite.field (.stickX .left 7) := by decide +kernel

theorem witness_ConditionsHaveOnlyTheirEffects :
    idle.cfg.notConnectedToOwner = false ∧
    { idle with cfg := { testCfg with notConnectedToOwner := true } }.cfg.notConnectedToOwner = true ∧
    Condition.shortFrame 0 ≠ .frameOverflow ∧ Condition.shortFrame 0 ≠ .alreadyConnected ∧
    Condition.shortFrame 0 ≠ .deviceOpenFailed ∧ Condition.shortFrame 0 ≠ .notFound ∧
    Condition.shortFrame 0 ≠ .notConnected := by decide

theorem witness_ReportCommandsWriteRptEn :
    idle.cfg.pEchoEn = false ∧ { idle with cfg := { testCfg with pEchoEn := true } }.cfg.pEchoEn = true := by decide

theorem witness_UnknownHandshakeIsDropped :
    ((0x00 : Byte) = 0x00 ∨ 0x06 ≤ (0x00 : Byte).toNat) ∧ ((0x06 : Byte) = 0x00 ∨ 0x06 ≤ (0x06 : Byte).toNat) ∧
    ((0xff : Byte) = 0x00 ∨ 0x06 ≤ (0xff : Byte).toNat) := by decide

/-- The hypotheses of `SelectsSub`, for every code with a row of its own and for 0x00 and 0xff. -/
theorem witness_SelectsSub :
    testCfg.idsOk = true ∧ ∀ sc ∈ subCommandCodes ++ [0x00, 0xff],
      16 ≤ (fullOut sc).length ∧ byteAt (fullOut sc) 0 = testCfg.ridFullOut ∧ byteAt (fullOut sc) 10 = sc := by decide

theorem witness_UnknownSubCommandIsDropped :
    ∀ sc ∈ ([0x00, 0x05, 0x11, 0x49, 0xff] : List Byte), sc ∉ subCommandCodes := by decide

theorem witness_CalibrationOperandsAreBytes11To15 :
    testCfg.idsOk = true ∧ 16 ≤ (spird 1 2 3 4 5).length ∧ byteAt (spird 1 2 3 4 5) 0 = testCfg.ridFullOut ∧
    byteAt (spird 1 2 3 4 5) 10 = 0x10 := by decide

/-- Reads ending at the last byte of each page, the longest read, and the empty read at the end. -/
theorem witness_CalibrationReadReplies :
    testCfg.calBankB ≠ 0x60 ∧
    (20 : Byte).toNat + (44 : Byte).toNat ≤ testCfg.calA.length ∧ (44 : Byte).toNat ≤ 44 ∧
    (64 : Byte).toNat + (0 : Byte).toNat ≤ testCfg.calA.length ∧
    (0x80 : Byte) = testCfg.calBankB ∧ (16 : Byte).toNat + (8 : Byte).toNat ≤ testCfg.calB.length := by decide

/-- An unknown bank, and reads one byte past the end of each page. -/
theorem witness_CalibrationMissIsNacked :
    testCfg.calBankB ≠ 0x60 ∧ ((0x99 : Byte) ≠ 0x60 ∧ (0x99 : Byte) ≠ testCfg.calBankB) ∧
    testCfg.calA.length < (60 : Byte).toNat + (5 : Byte).toNat ∧
    testCfg.calA.length < (65 : Byte).toNat + (0 : Byte).toNat ∧
    testCfg.calB.length < (20 : Byte).toNat + (5 : Byte).toNat := by decide

/-- The shortest read that overflows, in each bank. -/
theorem witness_CalibrationOverflowSetsFault :
    testCfg.calBankB ≠ 0x60 ∧ (19 : Byte).toNat + (45 : Byte).toNat ≤ testCfg.calA.length ∧ 44 < (45 : Byte).toNat ∧
    (0 : Byte).toNat + (45 : Byte).toNat ≤ { testCfg with calB := zeros 45 }.calB.length := by decide

theorem witness_UnknownReportIsDropped :
    ∀ rid ∈ ([0x00, 0x11, 0x81, 0xff] : List Byte), rid ≠ 0x80 ∧ rid ≠ testCfg.ridFullOut ∧ rid ∉ testCfg.ridIgnored := by
  decide

theorem witness_IgnoredReportHasNoEffect :
    (0x10 : Byte) ≠ 0x80 ∧ (0x10 : Byte) ≠ testCfg.ridFullOut ∧ (0x10 : Byte) ∈ testCfg.ridIgnored := by decide

/-- The longest and the empty short frames. -/
theorem witness_ShortFrameIsDropped :
    testCfg.idsOk = true ∧ idle.cfg = testCfg ∧ decode testCfg [] = .error (.shortFrame 0) ∧
    decode testCfg [0x80] = .error (.shortFrame 1) ∧
    decode testCfg ((fullOut 0x02).take 15) = .error (.shortFrame 15) := by decide +kernel

/-- The hypotheses of its last clause: a short frame waiting before another one. -/
theorem witness_ShortFrameIsDropped_step :
    { idle with rx := [[], [0x80, 0x01]], sched := [.rx []] }.sched = .rx [] :: [] ∧
    { idle with rx := [[], [0x80, 0x01]], sched := [.rx []] }.conn = true ∧
    { idle with rx := [[], [0x80, 0x01]], sched := [.rx []] }.rx = [] :: [[0x80, 0x01]] := ⟨rfl, rfl, rfl⟩

theorem witness_DecodeOfEncode :
    testCfg.idsOk = true ∧ (Instr.subSpird 0xff 0x80 1 2 0xff).wellFormed testCfg = true ∧
    (Instr.ignore 0x10).wellFormed testCfg = true ∧ (Instr.rptUnk 0xff).wellFormed testCfg = true ∧
    (Instr.subUnk 0x00).wellFormed testCfg = true ∧ (Instr.hsUnk 0x06).wellFormed testCfg = true := by decide

theorem witness_DecodedCommandIsWellFormed :
    testCfg.idsOk = true ∧ decode testCfg (fullOut 0x48) = .ok .subCfg48 := by decide

theorem witness_DecodeSelectsTableRow : testCfg.ridFullOut = 0x01 ∧ testCfg.ridIgnored = [0x10] := by decide

/-- One pair of different frames for each clause. -/
theorem witness_OtherInboundBytesAreNotRead :
    (byteAt [0x80, 0x01] 0 = byteAt [0x80, 0x01, 0xaa] 0 ∧ byteAt [0x80, 0x01] 0 = 0x80 ∧
      byteAt [0x80, 0x01] 1 = byteAt [0x80, 0x01, 0xaa] 1) ∧
    (byteAt (fullOut 0x21) 0 = testCfg.ridFullOut ∧ byteAt (fullOut 0x21) 0 ≠ 0x80 ∧ 16 ≤ (fullOut 0x21).length ∧
      ∀ k < 16, 10 ≤ k → byteAt (fullOut 0x21) k = byteAt (fullOut 0x21 ++ [0xee]) k) ∧
    (byteAt [0x10] 0 = byteAt [0x10, 0x05] 0 ∧ byteAt [0x10] 0 ≠ 0x80 ∧ byteAt [0x10] 0 ≠ testCfg.ridFullOut) := by
  decide

theorem witness_QuantizeInRangeIsExact : (-1 - 1 / 4096 : Rat) < 0 ∧ (0 : Rat) < 1 - 1 / 4096 := by decide +kernel

/-- At the two bounds of the clamp. -/
theorem witness_QuantizeClampsOutside :
    quantize (1 - 1 / 4096) = 4095 ∧ quantize (-1 - 1 / 4096) = 0 := by decide +kernel

/-- Ties on both sides of zero. -/
theorem witness_RoundIsNearestAwayFromZero : roundAway (1 / 2) = 1 ∧ roundAway (-1 / 2) = -1 := by decide +kernel

theorem witness_PackAndUnpackAreInverse : (4095 < 4096) ∧ unpack12 0xff 0xff 0xff = (4095, 4095) := by decide

/-- The longest payload with a frame, and the shortest without one. -/
theorem witness_FrameIsAlways64Bytes : (zeros 62).length ≤ 62 ∧ 62 < (zeros 63).length := by decide

theorem witness_AckByteRule : 0 < 1 ∧ ackByte true 0x10 5 = 0x90 := by decide

/-- The boundary of the range test, and an unknown bank. -/
theorem witness_CalReadIsExact :
    testCfg.calBankB ≠ 0x60 ∧ ((0x61 : Byte) ≠ 0x60 ∧ (0x61 : Byte) ≠ testCfg.calBankB) ∧
    (60 : Byte).toNat + (4 : Byte).toNat = testCfg.calA.length ∧
    testCfg.calA.length < (60 : Byte).toNat + (5 : Byte).toNat := by decide

theorem witness_CalibrationCellsMatchPages :
    testCfg.wf = true ∧ 255 < 256 ∧ (calMemory testCfg).byte 0x6000 = some 0xa0 ∧
    (calMemory testCfg).byte 0x8017 = some 0x57 ∧ (calMemory testCfg).byte 0x8018 = none := by decide +kernel

/-- A step that exists, for the statements about every step: CalibrationNeverChanges, AtMostOneFramePerEvent. -/
theorem witness_a_step : (after { busy with sched := [.tickRpt []] }).isSome = true := by decide +kernel

theorem witness_CommandsKeepTheRest : exec .subVib busy = .next (subReply true 0x21 testCfg.sub21Reply.toList busy) :=
  rfl

theorem witness_StepRunsTheDecodedCommand :
    (offering [0x80, 0x01] idle).sched = .rx [] :: [] ∧ (offering [0x80, 0x01] idle).conn = true ∧
    (offering [0x80, 0x01] idle).rx = [0x80, 0x01] :: [] ∧
    decode (offering [0x80, 0x01] idle).cfg [0x80, 0x01] = .ok .hsInit := by decide +kernel

/-- One state for each of the three events that do not occur. -/
theorem witness_DisconnectedIsSilent :
    created.conn = false ∧ (after { created with sched := [.rx []], rx := [[0x80, 0x01]] }).isSome = true ∧
    (after { created with sched := [.tickRpt []] }).isSome = true ∧
    (after { created with sched := [.tickSeq] }).isSome = true := by decide +kernel

theorem witness_NothingOfferedNothingChanges :
    idle.sched = [] ∧ { idle with sched := [.rx []] }.sched = .rx [] :: [] ∧
    { idle with sched := [.rx []] }.rx = [] := by decide +kernel

theorem witness_TickSeqIncrementsModulo256 :
    ({ idle with sched := [.tickSeq] }.sched = .tickSeq :: [] ∧ { idle with sched := [.tickSeq] }.conn = true) ∧
    ({ created with sched := [.tickSeq] }.sched = .tickSeq :: [] ∧
      { created with sched := [.tickSeq] }.conn = false) := by decide +kernel

theorem witness_TickRptTransmitsWhenEnabled :
    ({ reporting with sched := [.tickRpt []] }.conn = true ∧ { reporting with sched := [.tickRpt []] }.rptEn = true) ∧
    ({ idle with sched := [.tickRpt []] }.conn = true ∧ { idle with sched := [.tickRpt []] }.rptEn = false) ∧
    { created with sched := [.tickRpt []] }.conn = false := by decide

theorem busy_Inv : Inv busy where
  cfgWf := by decide
  mode := by decide
  frames := by decide +kernel
  history := rfl

theorem witness_ReportShowsTheInput :
    Inv { reporting with sched := [.tickRpt []] } ∧ { reporting with sched := [.tickRpt []] }.conn = true ∧
    { reporting with sched := [.tickRpt []] }.rptEn = true ∧
    { reporting with sched := [.tickRpt []] }.runWrites = [] ∧ writesNext true [] = [] :=
  ⟨⟨by decide, by decide, by decide, rfl⟩, rfl, rfl, rfl, rfl⟩

theorem witness_OnlyInputWritesChangeTheInput :
    (after { busy with sched := [.tickSeq] }).isSome = true ∧
    ∀ w es, { busy with sched := [.tickSeq] }.sched ≠ .inputWrite w :: es :=
  ⟨by decide +kernel, by simp⟩

/-- Each control element does change in some step. -/
theorem witness_ControlElementsHaveTheirWriters :
    [{ created with sched := [.connect true] }, offering [0x80, 0x04] idle, offering (spird 0 0x60 0 0 45) idle].map
        shows =
      [some ([], true, 0x00, false, false), some ([], true, 0x00, true, false), some ([], true, 0x00, false, true)] := by
  decide +kernel

/-- Each mode is the mode of some state that steps. -/
theorem witness_ModesChangeOnlyAsListed :
    created.mode = some .disconnected ∧ idle.mode = some .idle ∧ reporting.mode = some .reporting := by decide

theorem witness_StepKeepsTheInvariant :
    Inv { busy with sched := [.tickRpt []] } ∧ (after { busy with sched := [.tickRpt []] }).isSome = true :=
  ⟨⟨busy_Inv.cfgWf, busy_Inv.mode, busy_Inv.frames, busy_Inv.history⟩, witness_a_step⟩

theorem witness_PadCountsKeepTheirWidth :
    PadsFit { reporting with sched := [.inputWrite (.dpad .left 255), .tickRpt []] } ∧
    (after { reporting with sched := [.inputWrite (.dpad .left 255), .tickRpt []] }).isSome = true :=
  ⟨⟨by decide +kernel, by decide, by decide, by decide, by decide⟩, by decide +kernel⟩

theorem witness_RecordsAreNeverRead :
    { busy with fault := true, diag := [.frameIn []] }.withoutRecords = busy.withoutRecords ∧
    step { busy with fault := true, diag := [.frameIn []] } =
      .next { busy with fault := true, diag := [.frameIn []] } := ⟨rfl, rfl⟩

/-- A tick that wraps, and an event that is no tick. -/
theorem witness_ConnectedStepCountsTicks :
    { idle with seq := 0xff, sched := [.tickSeq] }.conn = true ∧ Event.tickSeq ≠ .close ∧
    (after { idle with seq := 0xff, sched := [.tickSeq] }).isSome = true ∧
    (after { idle with seq := 0xff, sched := [.connect true] }).isSome = true := by decide +kernel

theorem witness_SeqCountsTicksInEveryInterleaving :
    idle.conn = true ∧ Event.close ∉ List.replicate 256 Event.tickSeq ∧
    (List.replicate 256 Event.tickSeq).count .tickSeq = 256 := by
  refine ⟨by decide, fun h => ?_, List.count_replicate_self⟩
  exact nomatch List.eq_of_mem_replicate h

theorem witness_DoubleEnableIsUndoneByOneDisable :
    (∀ e ∈ [Event.tickSeq] ++ [.tickRpt []] ++ [.tickRpt []], e = .tickSeq ∨ ∃ t, e = .tickRpt t) ∧
    { idle with rx := [[0x80, 0x04], [0x80, 0x04], [0x80, 0x05]] }.conn = true ∧
    { idle with rx := [[0x80, 0x04], [0x80, 0x04], [0x80, 0x05]] }.cfg.pEchoEn = false := by
  refine ⟨?_, by decide, by decide⟩
  simp

theorem witness_FaultIsStickyThroughRuns :
    Sys2Proof.core.run 0 { idle with fault := true } = .next { idle with fault := true } := rfl

end Sys2Proof.Tests
end

section
/-! PROOFS. What a command may write (R130, R156), said once over all commands; from it, and a case per event, no step
writes the configuration, so the calibration store is read-only (R45). -/

namespace Sys2Proof.Machine

/-! ## The elements a command may write -/

/-- `t` is `s` but for the elements a command may write: RPT_EN, FAULT, the trace and the diagnostics (R156, R219). -/
def State.CommandWrites (s t : State) : Prop :=
  ∃ rptEn fault tx diag, t = { s with rptEn := rptEn, fault := fault, tx := tx, diag := diag }

theorem State.CommandWrites.refl (s : State) : s.CommandWrites s := ⟨_, _, _, _, rfl⟩

theorem State.CommandWrites.trans {s t u : State} (hst : s.CommandWrites t) (htu : t.CommandWrites u) :
    s.CommandWrites u := by
  obtain ⟨_, _, _, _, rfl⟩ := hst
  obtain ⟨_, _, _, _, rfl⟩ := htu
  exact ⟨_, _, _, _, rfl⟩

theorem State.CommandWrites.cfg_eq {s t : State} (h : s.CommandWrites t) : t.cfg = s.cfg := by
  obtain ⟨_, _, _, _, rfl⟩ := h
  rfl

theorem State.commandWrites_record (s : State) (d : Diag) : s.CommandWrites (s.record d) := ⟨_, _, _, _, rfl⟩

theorem State.commandWrites_rptEn (s : State) (on : Bool) : s.CommandWrites { s with rptEn := on } := ⟨_, _, _, _, rfl⟩

theorem State.commandWrites_frameOverflow (s : State) : s.CommandWrites (raise .frameOverflow s) := ⟨_, _, _, _, rfl⟩

/-- Transmitting writes the trace and the diagnostics, or FAULT where the payload does not fit (R111, R205). -/
theorem State.commandWrites_send (s : State) (id b1 : Byte) (payload : List Byte) :
    s.CommandWrites (send id b1 payload s) := by
  rcases Nat.lt_or_ge 62 payload.length with hgt | hle
  · rw [send_of_gt s hgt]; exact ⟨_, _, _, _, rfl⟩
  · rw [send_of_le s hle]; exact ⟨_, _, _, _, rfl⟩

theorem State.commandWrites_hsReply (s : State) (code : Byte) (payload : List Byte) :
    s.CommandWrites (hsReply code payload s) := s.commandWrites_send _ _ _

theorem State.commandWrites_subReply (s : State) (acked : Bool) (sc : Byte) (data : List Byte) :
    s.CommandWrites (subReply acked sc data s) := s.commandWrites_send _ _ _

theorem State.commandWrites_echoCommand (s : State) (code : Byte) : s.CommandWrites (echoCommand code s) := by
  unfold echoCommand
  split
  · exact s.commandWrites_hsReply code []
  · exact .refl s

/-! ## Every command completes and writes no more -/

/-- SUB_SPIRD in its three outcomes (R152, R208): a miss, a hit that fits, a hit that overflows. -/
theorem execSubSpird_commandWrites (off bank hdr13 hdr14 n : Byte) (s : State) :
    ∃ t, execSubSpird off bank hdr13 hdr14 n s = .next t ∧ s.CommandWrites t := by
  unfold execSubSpird
  split
  · exact ⟨_, rfl, (s.commandWrites_record _).trans (State.commandWrites_subReply _ _ _ _)⟩
  · split
    · exact ⟨_, rfl, (s.commandWrites_record _).trans (State.commandWrites_subReply _ _ _ _)⟩
    · exact ⟨_, rfl, (s.commandWrites_record _).trans (State.commandWrites_frameOverflow _)⟩

/-- The frame rule of the commands: each answers a next state, which differs in the listed elements only. -/
theorem exec_commandWrites (i : Instr) (s : State) : ∃ t, exec i s = .next t ∧ s.CommandWrites t := by
  cases i with
  | hsInit | hsBaud2 | hsBaud3 => exact ⟨_, rfl, s.commandWrites_hsReply _ _⟩
  | hsRptOn | hsRptOff => exact ⟨_, rfl, (s.commandWrites_rptEn _).trans (State.commandWrites_echoCommand _ _)⟩
  | hsUnk | subUnk | rptUnk => exact ⟨_, rfl, s.commandWrites_record _⟩
  | subSpird off bank hdr13 hdr14 n => exact execSubSpird_commandWrites off bank hdr13 hdr14 n s
  | ignore => exact ⟨s, rfl, .refl s⟩
  | subPair | subDevinfo | subCfg03 | subTime | subCfg08 | subVib | subCfg30 | subCfg38 | subCfg40 | subCfg41
  | subCfg48 => exact ⟨_, rfl, s.commandWrites_subReply _ _ _⟩

/-! ## No event writes the configuration -/

theorem raiseNotConnected_cfg (s : State) : (raiseNotConnected s).cfg = s.cfg := by
  obtain ⟨_, h⟩ := raiseNotConnected_records s
  rw [h]

theorem connect_cfg (openOk : Bool) (s : State) : (connect openOk s).cfg = s.cfg := by
  unfold connect
  split
  · exact State.answerOwner_cfg s _
  · split
    · exact State.answerOwner_cfg s _
    · rfl

theorem close_cfg (s : State) : (close s).cfg = s.cfg := by
  unfold close
  split
  · exact raiseNotConnected_cfg s
  · rfl

theorem tickSeq_cfg (s : State) : (tickSeq s).cfg = s.cfg := by
  unfold tickSeq
  split <;> rfl

theorem tickRpt_cfg (s : State) : (tickRpt s).cfg = s.cfg := by
  unfold tickRpt
  split
  · exact (s.commandWrites_send _ _ _).cfg_eq
  · rfl

/-- A received frame runs a command or, where it is short, leaves a diagnostic (R170, R173). -/
theorem receive_commandWrites (F : List Byte) (s : State) : ∃ t, receive F s = .next t ∧ s.CommandWrites t := by
  unfold receive
  split
  next i _ =>
    obtain ⟨t, hexec, hwrites⟩ := exec_commandWrites i (s.record (.frameIn F))
    exact ⟨t, hexec, (s.commandWrites_record _).trans hwrites⟩
  next => exact ⟨_, rfl, (s.commandWrites_record _).trans (State.commandWrites_record _ _)⟩

theorem perform_rx_of_nil {s : State} (tear : Tear) (h : s.rx = []) : perform (.rx tear) s = .next s := by
  simp only [perform, h]

theorem perform_rx_of_cons {s : State} {F : List Byte} {rest : List (List Byte)} (tear : Tear) (h : s.rx = F :: rest) :
    perform (.rx tear) s = receive F ({ s with rx := rest }.beginSnapshot tear) := by
  simp only [perform, h]

theorem perform_cfg (e : Event) (s : State) : ∃ t, perform e s = .next t ∧ t.cfg = s.cfg := by
  cases e with
  | rx tear =>
    cases hrx : s.rx with
    | nil => exact ⟨s, perform_rx_of_nil tear hrx, rfl⟩
    | cons F rest =>
      obtain ⟨t, hreceive, hwrites⟩ := receive_commandWrites F ({ s with rx := rest }.beginSnapshot tear)
      exact ⟨t, (perform_rx_of_cons tear hrx).trans hreceive, hwrites.cfg_eq⟩
  | tickSeq => exact ⟨_, rfl, tickSeq_cfg _⟩
  | tickRpt tear => exact ⟨_, rfl, tickRpt_cfg _⟩
  | connect openOk => exact ⟨_, rfl, connect_cfg _ _⟩
  | close => exact ⟨_, rfl, close_cfg _⟩
  | inputWrite w => exact ⟨_, rfl, rfl⟩

/-- The block never stops, and no step writes the configuration (R5, R45, R178). -/
theorem step_cfg (s : State) : ∃ t, step s = .next t ∧ t.cfg = s.cfg := by
  unfold step
  split
  next => exact ⟨s, rfl, rfl⟩
  next e es _ =>
    split
    · exact perform_cfg e { s with sched := es }
    · exact ⟨_, rfl, rfl⟩

/-! ## The calibration space -/

theorem State.calByte_congr {s t : State} (h : t.cfg = s.cfg) (bank : Byte) (off : Nat) :
    t.calByte bank off = s.calByte bank off := by
  rw [State.calByte, State.calByte, h]

/-- Settles O37: the calibration pages are part of the configuration, which no step writes (`step_cfg`). -/
theorem calibrationNeverChanges : Obligations.CalibrationNeverChanges := by
  intro s t hstep
  obtain ⟨u, hu, hcfg⟩ := step_cfg s
  obtain rfl : u = t := by simpa [hu] using hstep
  exact ⟨hcfg, fun bank off => State.calByte_congr hcfg bank off, fun bank off n => by rw [hcfg]⟩

end Sys2Proof.Machine
end

section
/-! PROOFS. The ack byte of a sub-command reply (R69), in its three cases: refused, acknowledged without data,
acknowledged with data. -/

namespace Sys2Proof.Machine

/-- Settles O34: each listed value is one of the three cases of R69, at the code of the command. -/
theorem ackByteRule : Obligations.AckByteRule := by
  refine ⟨fun sc d => ⟨ackByte_refused sc d, ackByte_acked_empty sc, fun hd => ackByte_acked_data sc hd.ne'⟩,
    fun d hd => ?_, fun sc _ => ackByte_acked_empty sc, ackByte_refused 0x10 0⟩
  have withData (sc : Byte) : ackByte true sc d = 0x80 ||| sc := ackByte_acked_data sc hd.ne'
  simp only [withData]
  decide

end Sys2Proof.Machine
end

section
/-! PROOFS. The slices of R6 as arithmetic, and the packed pair of R106 built from them. -/

namespace Sys2Proof.Machine

/-- A slice reads the bits up to its upper end only. -/
theorem slice_mod_two_pow (x : Nat) {hi lo n : Nat} (hlo : lo ≤ hi) (hhi : hi < n) :
    slice (x % 2 ^ n) hi lo = slice x hi lo := by
  obtain ⟨k, rfl⟩ := Nat.exists_eq_add_of_le (hlo.trans hhi.le)
  have hdvd : 2 ^ (hi - lo + 1) ∣ 2 ^ k := pow_dvd_pow 2 (by omega)
  rw [slice, slice, pow_add, Nat.mod_mul_right_div_self, Nat.mod_mod_of_dvd _ hdvd]

theorem slice_zero_right (x hi : Nat) : slice x hi 0 = x % 2 ^ (hi + 1) := by
  rw [slice, pow_zero, Nat.div_one, Nat.sub_zero]

/-- Two nibbles in one byte: the high one, shifted, and the low one share no bit, so `|` adds them. -/
theorem nibbles_or_eq_add (h : Nat) {l : Nat} (hl : l < 16) : h <<< 4 ||| l = h * 16 + l := by
  rw [← Nat.shiftLeft_add_eq_or_of_lt hl, Nat.shiftLeft_eq]

/-- R106 with its slices and its `|` as division and remainder. -/
theorem pack12_eq_arith (a b : Nat) :
    pack12 a b = [BitVec.ofNat 8 (a % 256), BitVec.ofNat 8 (b % 16 * 16 + a / 256 % 16),
      BitVec.ofNat 8 (b / 16 % 256)] := by
  have hlow : slice a 11 8 < 16 := Nat.mod_lt _ (by decide)
  rw [pack12, nibbles_or_eq_add _ hlow, slice_zero_right, slice_zero_right]
  rfl

/-- The bits above bit 11 are not packed (R106). -/
theorem pack12_mod_4096 (a b : Nat) : pack12 (a % 4096) (b % 4096) = pack12 a b := by
  have hslice (x : Nat) {hi lo : Nat} (hlo : lo ≤ hi) (hhi : hi < 12) : slice (x % 4096) hi lo = slice x hi lo :=
    slice_mod_two_pow x hlo hhi
  simp [pack12, hslice]

/-- Settles O30: each of the three numbers of `pack12_eq_arith` is below 256, so its byte holds it whole. -/
theorem packPutsTwelveBitPairs : Obligations.PackPutsTwelveBitPairs := by
  intro a b
  have byteHolds {n : Nat} (hn : n < 256) : (BitVec.ofNat 8 n).toNat = n :=
    (BitVec.toNat_ofNat n 8).trans (Nat.mod_eq_of_lt hn)
  exact ⟨_, _, _, pack12_eq_arith a b, byteHolds (by omega), byteHolds (by omega), byteHolds (by omega),
    (pack12_mod_4096 a b).symm⟩

end Sys2Proof.Machine
end

section
/-! PROOFS. The handshake commands (R130 to R133, R136): which frames select one, the reply with no payload, and what
the commands that write no state answer. -/

namespace Sys2Proof.Machine

/-! ## Selection by byte 1 -/

/-- A handshake frame selects by its byte 1 alone, whatever follows and whatever the configuration (R61, R72). -/
theorem selectsHandshake_decodeHandshake (code : Byte) : SelectsHandshake code (decodeHandshake code) :=
  fun _ _ => decode_handshake rfl (by simp)

theorem toNat_of_mem_handshakeCodes : ∀ code ∈ handshakeCodes, 1 ≤ code.toNat ∧ code.toNat ≤ 5 := by decide

theorem notMem_handshakeCodes {code : Byte} (h : code = 0x00 ∨ 0x06 ≤ code.toNat) : code ∉ handshakeCodes := by
  intro hmem
  obtain ⟨hlo, hhi⟩ := toNat_of_mem_handshakeCodes code hmem
  rcases h with rfl | hge
  · exact absurd hlo (by decide)
  · omega

/-! ## The empty reply -/

/-- With no payload the reply is the echoed code and 62 zeros (R66). -/
theorem hsReply_nil (code : Byte) (s : State) : hsReply code [] s = s.sent ([0x81, code] ++ zeros 62) :=
  hsReply_of_le s (Nat.zero_le 62)

/-! ## The commands -/

theorem exec_hsInit (s : State) : exec .hsInit s = .next (hsReply 0x01 hsIdent s) := rfl

theorem exec_hsBaud2 (s : State) : exec .hsBaud2 s = .next (hsReply 0x02 [] s) := rfl

theorem exec_hsBaud3 (s : State) : exec .hsBaud3 s = .next (hsReply 0x03 [] s) := rfl

theorem exec_hsUnk (code : Byte) (s : State) :
    exec (.hsUnk code) s = .next (raise (.unknownHandshake code) s) := rfl

/-- Settles O7: the identity is 8 bytes, so it fits the frame (`hsReply_of_le`) and 54 zeros follow. -/
theorem handshakeInitRepliesIdentity : Obligations.HandshakeInitRepliesIdentity := by
  refine ⟨selectsHandshake_decodeHandshake 0x01, fun s => ?_⟩
  have identFits : hsIdent.length ≤ 62 := by decide
  rw [exec_hsInit, hsReply_of_le s identFits]
  rfl

/-- Settles O8: each of the two commands is the empty reply at its own code. -/
theorem baudStepsReplyEmpty : Obligations.BaudStepsReplyEmpty := by
  refine ⟨selectsHandshake_decodeHandshake 0x02, selectsHandshake_decodeHandshake 0x03, fun s => ⟨?_, ?_⟩⟩
  · rw [exec_hsBaud2, hsReply_nil]
  · rw [exec_hsBaud3, hsReply_nil]

/-- Settles O10: no such code has a row of its own (`notMem_handshakeCodes`), and the command raises its condition,
which is recorded and does nothing else. -/
theorem unknownHandshakeIsDropped : Obligations.UnknownHandshakeIsDropped := by
  refine ⟨fun code hcode => ?_, fun code s => ?_⟩
  · rw [← decodeHandshake_unknown (notMem_handshakeCodes hcode)]
    exact selectsHandshake_decodeHandshake code
  · rw [exec_hsUnk, raise_unknownHandshake]
    rfl

end Sys2Proof.Machine
end

section
/-! PROOFS. The sub-commands with a fixed reply or none (R142 to R151, R153, R154): which frames select one, and the
acknowledged reply with and without data. -/

namespace Sys2Proof.Machine

/-! ## Selection by byte 10 -/

/-- A full output report selects by its byte 10 alone where the arguments do not matter (R62, R73). -/
theorem selectsSub_of_decodeSubCommand {sc : Byte} {i : Instr}
    (h : ∀ b11 b12 b13 b14 b15, decodeSubCommand sc b11 b12 b13 b14 b15 = i) : SelectsSub sc i := by
  intro c F hids hlen hid hcode
  rw [decode_fullOut hids hid hlen, hcode, h]

/-! ## The acknowledged replies -/

/-- Acknowledged without data, the ack byte is 0x80 and 49 zeros follow the code (R67, R69). -/
theorem subReply_nil (sc : Byte) (s : State) : subReply true sc [] s = s.sent (replyFrame s 0x80 sc []) :=
  subReply_of_le s (Nat.zero_le 49)

/-- Acknowledged with a fixed reply of 1 to 49 bytes, the ack byte carries the code (R67, R69). -/
theorem subReply_vector {n : Nat} (sc : Byte) (data : Vector Byte n) (s : State) (hpos : n ≠ 0) (hfits : n ≤ 49) :
    subReply true sc data.toList s = s.sent (replyFrame s (0x80 ||| sc) sc data.toList) := by
  have hlen : data.toList.length = n := Vector.length_toList
  rw [subReply_of_le s (hlen.trans_le hfits), hlen, ackByte_acked_data sc hpos]

/-! ## The commands -/

theorem exec_subPair (s : State) : exec .subPair s = .next (subReply true 0x01 s.cfg.sub01Reply.toList s) := rfl

theorem exec_subDevinfo (s : State) : exec .subDevinfo s = .next (subReply true 0x02 s.cfg.sub02Reply.toList s) := rfl

theorem exec_subVib (s : State) : exec .subVib s = .next (subReply true 0x21 s.cfg.sub21Reply.toList s) := rfl

theorem exec_subUnk (sc : Byte) (s : State) : exec (.subUnk sc) s = .next (raise (.unknownSubcommand sc) s) := rfl

/-- Settles O11: no argument byte is looked at for these codes, and each fixed reply fits the frame
(`subReply_vector`); the ack byte is 0x80 with the code. -/
theorem fixedDataSubCommandsReply : Obligations.FixedDataSubCommandsReply := by
  refine ⟨selectsSub_of_decodeSubCommand fun _ _ _ _ _ => rfl, selectsSub_of_decodeSubCommand fun _ _ _ _ _ => rfl,
    selectsSub_of_decodeSubCommand fun _ _ _ _ _ => rfl, fun s => ⟨?_, ?_, ?_⟩⟩
  · rw [exec_subPair, subReply_vector _ _ s (by decide) (by decide)]
    rfl
  · rw [exec_subDevinfo, subReply_vector _ _ s (by decide) (by decide)]
    rfl
  · rw [exec_subVib, subReply_vector _ _ s (by decide) (by decide)]
    rfl

/-- Settles O12: no argument byte is looked at for these codes, and each of the eight commands is the empty reply at
its own code. -/
theorem emptySubCommandsAcknowledge : Obligations.EmptySubCommandsAcknowledge := by
  refine ⟨⟨?_, ?_, ?_, ?_, ?_, ?_, ?_, ?_⟩, fun s => ?_⟩
  iterate 8 exact selectsSub_of_decodeSubCommand fun _ _ _ _ _ => rfl
  have emptyReply {i : Instr} {sc : Byte} (harm : exec i s = .next (subReply true sc [] s)) :
      exec i s = .next (s.sent (replyFrame s 0x80 sc [])) := by rw [harm, subReply_nil]
  exact ⟨emptyReply rfl, emptyReply rfl, emptyReply rfl, emptyReply rfl, emptyReply rfl, emptyReply rfl,
    emptyReply rfl, emptyReply rfl⟩

/-- Settles O17: such a code has no row of its own (`decodeSubCommand_unknown`), and the command raises its condition,
which is recorded and does nothing else. -/
theorem unknownSubCommandIsDropped : Obligations.UnknownSubCommandIsDropped := by
  refine ⟨fun sc hsc => selectsSub_of_decodeSubCommand fun _ _ _ _ _ => decodeSubCommand_unknown hsc, fun sc s => ?_⟩
  rw [exec_subUnk, raise_unknownSubcommand]
  rfl

end Sys2Proof.Machine
end

section
/-! PROOFS. One offered event at a time: what a step does where the event occurs and where it does not (R23, R33,
R209); and the counter: what a tick writes, once and many times, and that no command writes it (R174). -/

namespace Sys2Proof.Machine

/-! ## A step, by whether the next event occurs -/

theorem step_of_occurs {s : State} {e : Event} {es : List Event} (hsched : s.sched = e :: es)
    (h : eventOccurs s e = true) : step s = perform e { s with sched := es } := by
  simp only [step, hsched, h, if_true]

theorem step_of_not_occurs {s : State} {e : Event} {es : List Event} (hsched : s.sched = e :: es)
    (h : eventOccurs s e = false) : step s = .next { s with sched := es } := by
  simp only [step, hsched, h, Bool.false_eq_true, if_false]

/-! ## The counter -/

theorem tickSeq_connected {s : State} (h : s.conn = true) : tickSeq s = { s with seq := s.seq + 1 } := if_pos h

theorem tickSeq_disconnected {s : State} (h : s.conn = false) : tickSeq s = s := if_neg (by simp [h])

theorem tickSeq_iterate_connected {s : State} (h : s.conn = true) (n : Nat) :
    tickSeq^[n] s = { s with seq := s.seq + BitVec.ofNat 8 n } := by
  induction n with
  | zero => simp
  | succ n ih =>
    calc tickSeq^[n + 1] s
      _ = tickSeq { s with seq := s.seq + BitVec.ofNat 8 n } := by rw [Function.iterate_succ_apply', ih]
      _ = { s with seq := s.seq + BitVec.ofNat 8 n + 1#8 } := tickSeq_connected h
      _ = { s with seq := s.seq + BitVec.ofNat 8 (n + 1) } := by rw [BitVec.add_assoc, BitVec.ofNat_add]

/-- The period of the counter (R174): 256 is 0 in 8 bits. -/
theorem tickSeq_iterate_256 (s : State) : tickSeq^[256] s = s := by
  cases hconn : s.conn with
  | false => exact Function.iterate_fixed (tickSeq_disconnected hconn) 256
  | true =>
    have hzero : s.seq + BitVec.ofNat 8 256 = s.seq := BitVec.add_zero s.seq
    rw [tickSeq_iterate_connected hconn, hzero]

theorem State.CommandWrites.seq_eq {s t : State} (h : s.CommandWrites t) : t.seq = s.seq := by
  obtain ⟨_, _, _, _, rfl⟩ := h
  rfl

/-- Settles O43: a tick occurs exactly while connected and then adds 1 to the byte; 256 of them add 0; and SEQ is not
among the elements a command may write (`exec_commandWrites`). -/
theorem tickSeqIncrementsModulo256 : Obligations.TickSeqIncrementsModulo256 := by
  refine ⟨fun s es hsched => ⟨fun hconn => ?_, fun hconn => ?_⟩, tickSeq_iterate_256, fun i s t hexec => ?_⟩
  · refine ⟨s.seq + 1, BitVec.toNat_add s.seq 1, ?_⟩
    rw [step_of_occurs hsched hconn]
    exact congrArg Host.Outcome.next (tickSeq_connected hconn)
  · exact step_of_not_occurs hsched hconn
  · obtain ⟨u, hu, hwrites⟩ := exec_commandWrites i s
    obtain rfl : u = t := by simpa [hu] using hexec
    exact hwrites.seq_eq

end Sys2Proof.Machine
end

section
/-! PROOFS. INPUT_WRITE (R196): the read-after-write rule of the 22 fields, said for each group of them and then for
every write, and the step that performs a write. -/

namespace Sys2Proof.Machine

/-! ## A group of fields is read from its own part of the bank -/

theorem get_dpad_congr {i j : InputState} (h : i.dpad = j.dpad) (d : Dir) : i.get (.dpad d) = j.get (.dpad d) := by
  cases d <;> simp only [InputState.get, h]

theorem get_button_congr {i j : InputState} (h : i.button = j.button) (which : Button) :
    i.get (.button which) = j.get (.button which) := by
  cases which <;> simp only [InputState.get, h]

/-! ## Each group after a change -/

theorem get_dpad_write_dpad (i : InputState) (d d' : Dir) (v : Nat) :
    (i.write (.dpad d v)).get (.dpad d') = if d' = d then .count v else i.get (.dpad d') := by
  cases d <;> cases d' <;> rfl

theorem get_button_write_button (i : InputState) (which other : Button) (v : Bool) :
    (i.write (.button which v)).get (.button other) = if other = which then .bit v else i.get (.button other) := by
  cases which <;> cases other <;> rfl

theorem stick_modifyStick (i : InputState) (s s' : Side) (g : Stick → Stick) :
    (i.modifyStick s g).stick s' = if s' = s then g (i.stick s') else i.stick s' := by
  cases s <;> cases s' <;> rfl

theorem modifyStick_dpad (i : InputState) (s : Side) (g : Stick → Stick) : (i.modifyStick s g).dpad = i.dpad := by
  cases s <;> rfl

theorem modifyStick_button (i : InputState) (s : Side) (g : Stick → Stick) :
    (i.modifyStick s g).button = i.button := by
  cases s <;> rfl

/-! ## Every field after every write -/

/-- Read after write (R196): the named field shows the value as given, every other field its old one. -/
theorem get_write (i : InputState) (w : InputWrite) (f : InputField) :
    (i.write w).get f = if f = w.field then w.value else i.get f := by
  cases w with
  | dpad d v =>
    cases f with
    | dpad d' => simpa [InputWrite.field, InputWrite.value] using get_dpad_write_dpad i d d' v
    | button other => exact get_button_congr (i := i.write (.dpad d v)) (j := i) rfl other
    | stickX | stickY | stickPress => rfl
  | button which v =>
    cases f with
    | dpad d => exact get_dpad_congr (i := i.write (.button which v)) (j := i) rfl d
    | button other => simpa [InputWrite.field, InputWrite.value] using get_button_write_button i which other v
    | stickX | stickY | stickPress => rfl
  | stickX s v | stickY s v | stickPress s v =>
    cases f with
    | dpad d => exact get_dpad_congr (modifyStick_dpad i s _) d
    | button other => exact get_button_congr (modifyStick_button i s _) other
    | stickX s' | stickY s' | stickPress s' =>
      simp only [InputState.write, InputState.get, InputWrite.field, InputWrite.value, stick_modifyStick]
      by_cases h : s' = s <;> simp [h]

/-! ## The step -/

/-- Settles O5: an INPUT_WRITE occurs in every mode, and what each field shows after it is `get_write`. -/
theorem inputWriteChangesOneField : Obligations.InputWriteChangesOneField := by
  intro s w es hsched
  refine ⟨s.input.write w, step_of_occurs hsched rfl, ?_, fun f hf => ?_⟩
  · rw [get_write, if_pos rfl]
  · rw [get_write, if_neg hf]

end Sys2Proof.Machine
end

section
/-! PROOFS. The decoder and the encoder (R71 to R78): the branches of R71 as one case analysis, decoding a canonical
frame, which frames are short, which bytes are read, and the table. -/

namespace Sys2Proof

/-! ## The branches of the decoder -/

/-- A frame that is too short for its format: empty, `80` alone, or a full output report of fewer than 16 bytes
(R71, D11). -/
def IsShort (c : Config) (F : List Byte) : Prop :=
  F = [] ∨ byteAt F 0 = ridUsbCmd ∧ F.length < 2 ∨ byteAt F 0 = c.ridFullOut ∧ F.length < 16

/-- What the decoder answers for a frame, one case per outcome of R71. -/
inductive DecodeCase (c : Config) (F : List Byte) : Except Rejected Instr → Prop where
  | short (hshort : IsShort c F) : DecodeCase c F (.error (.shortFrame F.length))
  | handshake (hid : byteAt F 0 = ridUsbCmd) (hlen : 2 ≤ F.length) :
      DecodeCase c F (.ok (decodeHandshake (byteAt F 1)))
  | fullOut (husb : byteAt F 0 ≠ ridUsbCmd) (hid : byteAt F 0 = c.ridFullOut) (hlen : 16 ≤ F.length) :
      DecodeCase c F (.ok (decodeSubCommand (byteAt F 10) (byteAt F 11) (byteAt F 12) (byteAt F 13) (byteAt F 14)
        (byteAt F 15)))
  | ignored (hne : F ≠ []) (husb : byteAt F 0 ≠ ridUsbCmd) (hout : byteAt F 0 ≠ c.ridFullOut)
      (hid : c.ridIgnored.contains (byteAt F 0) = true) : DecodeCase c F (.ok (.ignore (byteAt F 0)))
  | unknown (hne : F ≠ []) (husb : byteAt F 0 ≠ ridUsbCmd) (hout : byteAt F 0 ≠ c.ridFullOut)
      (hid : c.ridIgnored.contains (byteAt F 0) = false) : DecodeCase c F (.ok (.rptUnk (byteAt F 0)))

theorem decode_cases (c : Config) (F : List Byte) : DecodeCase c F (decode c F) := by
  unfold decode
  split
  next h0 =>
    obtain rfl := List.length_eq_zero_iff.mp h0
    exact .short (.inl rfl)
  next h0 =>
    have hne : F ≠ [] := fun e => h0 (List.length_eq_zero_iff.mpr e)
    split
    next husb =>
      split
      · exact .short (.inr (.inl ⟨husb, ‹_›⟩))
      · exact .handshake husb (Nat.not_lt.mp ‹_›)
    next husb =>
      split
      next hout =>
        split
        · exact .short (.inr (.inr ⟨hout, ‹_›⟩))
        · exact .fullOut husb hout (Nat.not_lt.mp ‹_›)
      next hout =>
        split
        · exact .ignored hne husb hout ‹_›
        · exact .unknown hne husb hout (Bool.not_eq_true _ ▸ ‹_›)

/-- Where the identifiers are apart, a short frame is rejected as short (R71). -/
theorem decode_of_isShort {c : Config} {F : List Byte} (hids : c.idsOk = true) (h : IsShort c F) :
    decode c F = .error (.shortFrame F.length) := by
  have hapart : c.ridFullOut ≠ ridUsbCmd := by
    simp only [Config.idsOk, Bool.and_eq_true, bne_iff_ne] at hids
    exact hids.1
  rcases h with rfl | ⟨hid, hlen⟩ | ⟨hid, hlen⟩
  · rfl
  · by_cases hnil : F = []
    · rw [hnil]; rfl
    · simp [decode, hid, hnil, hlen]
  · by_cases hnil : F = []
    · rw [hnil]; rfl
    · simp [decode, hid, hnil, hlen, hapart]

/-- Where the frame is rejected it is short, and the length reported is its own. -/
theorem isShort_of_decode_error {c : Config} {F : List Byte} {len : Nat}
    (h : decode c F = .error (.shortFrame len)) : IsShort c F ∧ len = F.length := by
  have hcase := decode_cases c F
  rw [h] at hcase
  cases hcase with
  | short hshort => exact ⟨hshort, rfl⟩

/-! ## Decoding a canonical frame -/

theorem decode_handshakeFrame (c : Config) (code : Byte) :
    decode c (handshakeFrame code) = .ok (decodeHandshake code) :=
  decode_handshake rfl (Nat.le_refl 2)

theorem decode_fullOutFrame {c : Config} (hids : c.idsOk = true) (sc b11 b12 b13 b14 b15 : Byte) :
    decode c (fullOutFrame c sc b11 b12 b13 b14 b15) = .ok (decodeSubCommand sc b11 b12 b13 b14 b15) :=
  decode_fullOut hids rfl (Nat.le_refl 16)

theorem decode_encode {c : Config} {i : Instr} (hids : c.idsOk = true) (hwf : i.wellFormed c = true) :
    decode c (encode c i) = .ok i := by
  cases i with
  | hsInit | hsBaud2 | hsBaud3 | hsRptOn | hsRptOff => exact decode_handshakeFrame c _
  | hsUnk code =>
    have hcode : code ∉ handshakeCodes := by simpa [Instr.wellFormed] using hwf
    exact (decode_handshakeFrame c code).trans (congrArg _ (decodeHandshake_unknown hcode))
  | subPair | subDevinfo | subCfg03 | subTime | subCfg08 | subSpird | subVib | subCfg30 | subCfg38 | subCfg40
  | subCfg41 | subCfg48 => exact decode_fullOutFrame hids _ _ _ _ _ _
  | subUnk sc =>
    have hsc : sc ∉ subCommandCodes := by simpa [Instr.wellFormed] using hwf
    exact (decode_fullOutFrame hids sc 0 0 0 0 0).trans (congrArg _ (decodeSubCommand_unknown hsc))
  | ignore rid =>
    simp only [Instr.wellFormed, Bool.and_eq_true, bne_iff_ne] at hwf
    obtain ⟨⟨husb, hout⟩, hmem⟩ := hwf
    exact decode_ignored (F := [rid]) (List.cons_ne_nil _ _) husb hout hmem
  | rptUnk rid =>
    simp only [Instr.wellFormed, Bool.and_eq_true, bne_iff_ne, Bool.not_eq_true'] at hwf
    obtain ⟨⟨husb, hout⟩, hmem⟩ := hwf
    exact decode_unknownReport (F := [rid]) (List.cons_ne_nil _ _) husb hout hmem

/-- Settles O22: every command's canonical frame is one of four shapes, and each decodes by its own branch
(`decode_encode`). -/
theorem decodeOfEncode : Obligations.DecodeOfEncode :=
  fun _ _ hids hwf => decode_encode hids hwf

/-! ## What a decoded command is -/

theorem byteAt_encode_zero (c : Config) (i : Instr) : byteAt (encode c i) 0 = Laws.reportId c i := by
  cases i <;> rfl

theorem reportId_decodeHandshake (c : Config) (code : Byte) :
    Laws.reportId c (decodeHandshake code) = ridUsbCmd := by
  unfold decodeHandshake
  split_ifs <;> rfl

theorem reportId_decodeSubCommand (c : Config) (sc b11 b12 b13 b14 b15 : Byte) :
    Laws.reportId c (decodeSubCommand sc b11 b12 b13 b14 b15) = c.ridFullOut := by
  by_cases h : sc ∈ subCommandCodes
  · revert h; revert sc; simp [subCommandCodes, decodeSubCommand, Laws.reportId]
  · rw [decodeSubCommand_unknown h]; rfl

/-- A decoded command is well formed and belongs to the frame's identifier (R60, R71). -/
theorem wellFormed_and_reportId_of_decode {c : Config} {F : List Byte} {i : Instr} (h : decode c F = .ok i) :
    i.wellFormed c = true ∧ Laws.reportId c i = byteAt F 0 := by
  have hcase := decode_cases c F
  rw [h] at hcase
  cases hcase with
  | handshake hid => exact ⟨decodeHandshake_wellFormed c _, (reportId_decodeHandshake c _).trans hid.symm⟩
  | fullOut _ hid =>
    exact ⟨decodeSubCommand_wellFormed c _ _ _ _ _ _, (reportId_decodeSubCommand c _ _ _ _ _ _).trans hid.symm⟩
  | ignored _ husb hout hid => exact ⟨by simpa [Instr.wellFormed, husb, hout] using hid, rfl⟩
  | unknown _ husb hout hid => exact ⟨by simpa [Instr.wellFormed, husb, hout] using hid, rfl⟩

/-- Settles O23: a decoded command is well formed and of the frame's format, so its canonical frame decodes to it. -/
theorem decodedCommandIsWellFormed : Obligations.DecodedCommandIsWellFormed := by
  intro c F i hids hdec
  obtain ⟨hwf, hid⟩ := wellFormed_and_reportId_of_decode hdec
  exact ⟨hwf, (byteAt_encode_zero c i).trans hid, decode_encode hids hwf⟩

/-! ## The bytes that are read -/

theorem decode_fullOut_of_ne {c : Config} {F : List Byte} (husb : byteAt F 0 ≠ ridUsbCmd)
    (hid : byteAt F 0 = c.ridFullOut) (hlen : 16 ≤ F.length) :
    decode c F = .ok (decodeSubCommand (byteAt F 10) (byteAt F 11) (byteAt F 12) (byteAt F 13) (byteAt F 14)
      (byteAt F 15)) := by
  have hne : F ≠ [] := fun e => by simp [e] at hlen
  have hout : c.ridFullOut ≠ ridUsbCmd := hid ▸ husb
  simp [decode, hid, hne, hout, Nat.not_lt.mpr hlen]

/-- A frame of neither command format is read in its first byte only (R171, R172). -/
theorem decode_otherReport {c : Config} {F : List Byte} (hne : F ≠ []) (husb : byteAt F 0 ≠ ridUsbCmd)
    (hout : byteAt F 0 ≠ c.ridFullOut) :
    decode c F =
      .ok (if c.ridIgnored.contains (byteAt F 0) then .ignore (byteAt F 0) else .rptUnk (byteAt F 0)) := by
  cases hid : c.ridIgnored.contains (byteAt F 0) with
  | true => exact decode_ignored hne husb hout hid
  | false => exact decode_unknownReport hne husb hout hid

/-- Settles O25: in each format the decoder's answer is written in the bytes that are read. -/
theorem otherInboundBytesAreNotRead : Obligations.OtherInboundBytesAreNotRead := by
  intro c F G h0
  refine ⟨fun husb hF hG h1 => ?_, fun husb hid hF hG hargs => ?_, fun husb hout hF hG => ?_⟩
  · rw [decode_handshake husb hF, decode_handshake (h0 ▸ husb) hG, h1]
  · rw [decode_fullOut_of_ne husb hid hF, decode_fullOut_of_ne (h0 ▸ husb) (h0 ▸ hid) hG]
    rw [hargs 10, hargs 11, hargs 12, hargs 13, hargs 14, hargs 15] <;> decide
  · rw [decode_otherReport hF husb hout, decode_otherReport hG (h0 ▸ husb) (h0 ▸ hout), h0]

/-! ## The table -/

/-- A handshake frame selects the row of its code, or the catch-all row where the code has none (R72, R78). -/
theorem tableMnemonic_handshake {F : List Byte} (hid : byteAt F 0 = 0x80) (hlen : 2 ≤ F.length) :
    tableMnemonic F = some (decodeHandshake (byteAt F 1)).mnemonic := by
  generalize hcode : byteAt F 1 = code
  by_cases h : code ∈ handshakeCodes
  · simp only [handshakeCodes, List.mem_cons, List.not_mem_nil, or_false] at h
    rcases h with rfl | rfl | rfl | rfl | rfl <;>
      simp [tableMnemonic, opcodeTable, TableRow.selects, handshakeRow, subCommandRow, hid, hcode, hlen] <;> rfl
  · rw [decodeHandshake_unknown h]
    simp [handshakeCodes] at h
    simp [tableMnemonic, opcodeTable, TableRow.selects, handshakeRow, subCommandRow, hid, hcode, hlen, h,
      Instr.mnemonic]

/-- A full output report selects the row of its code, or the catch-all row where the code has none (R73, R78). -/
theorem tableMnemonic_fullOut {F : List Byte} (hid : byteAt F 0 = 0x01) (hlen : 16 ≤ F.length)
    (b11 b12 b13 b14 b15 : Byte) :
    tableMnemonic F = some (decodeSubCommand (byteAt F 10) b11 b12 b13 b14 b15).mnemonic := by
  generalize hcode : byteAt F 10 = sc
  by_cases h : sc ∈ subCommandCodes
  · simp only [subCommandCodes, List.mem_cons, List.not_mem_nil, or_false] at h
    rcases h with rfl | rfl | rfl | rfl | rfl | rfl | rfl | rfl | rfl | rfl | rfl | rfl <;>
      simp [tableMnemonic, opcodeTable, TableRow.selects, handshakeRow, subCommandRow, hid, hcode, hlen] <;> rfl
  · rw [decodeSubCommand_unknown h]
    simp [subCommandCodes] at h
    simp [tableMnemonic, opcodeTable, TableRow.selects, handshakeRow, subCommandRow, hid, hcode, hlen, h,
      Instr.mnemonic]

theorem tableMnemonic_ignored {F : List Byte} (hne : F ≠ []) (hid : byteAt F 0 = 0x10) :
    tableMnemonic F = some "IGNORE" := by
  have hlen : 1 ≤ F.length := List.length_pos_of_ne_nil hne
  simp [tableMnemonic, opcodeTable, TableRow.selects, handshakeRow, subCommandRow, hlen, hid]

theorem tableMnemonic_unknownReport {F : List Byte} (hne : F ≠ []) (husb : byteAt F 0 ≠ 0x80)
    (hout : byteAt F 0 ≠ 0x01) (hid : byteAt F 0 ≠ 0x10) : tableMnemonic F = some "RPT_UNK" := by
  have hlen : 1 ≤ F.length := List.length_pos_of_ne_nil hne
  simp at husb hout hid
  simp [tableMnemonic, opcodeTable, TableRow.selects, handshakeRow, subCommandRow, hlen, husb, hout, hid]

/-- A short frame selects no row: it misses the minimum length of its format, and RPT_UNK excludes its identifier. -/
theorem tableMnemonic_short {c : Config} {F : List Byte} (hrid : c.ridFullOut = 0x01) (h : IsShort c F) :
    tableMnemonic F = none := by
  rcases h with rfl | ⟨hid, hlen⟩ | ⟨hid, hlen⟩
  · decide
  · have hlen16 : F.length < 16 := by omega
    simp [tableMnemonic, opcodeTable, TableRow.selects, handshakeRow, subCommandRow, ridUsbCmd, hid,
      Nat.not_le.mpr hlen, Nat.not_le.mpr hlen16]
  · simp [tableMnemonic, opcodeTable, TableRow.selects, handshakeRow, subCommandRow, hid, hrid, Nat.not_le.mpr hlen]

/-- Settles O24: in each branch of the decoder (`decode_cases`) the table selects the row of that branch. -/
theorem decodeSelectsTableRow : Obligations.DecodeSelectsTableRow := by
  intro c F hrid hign
  have hcase := decode_cases c F
  generalize decode c F = answer at hcase ⊢
  cases hcase with
  | short hshort => exact tableMnemonic_short hrid hshort
  | handshake hid hlen => exact tableMnemonic_handshake hid hlen
  | fullOut _ hid hlen => exact tableMnemonic_fullOut (hid.trans hrid) hlen _ _ _ _ _
  | ignored hne _ _ hid => exact tableMnemonic_ignored hne (by simpa [hign] using hid)
  | unknown hne husb hout hid =>
    exact tableMnemonic_unknownReport hne husb (hrid ▸ hout) (by simpa [hign] using hid)

/-! ## Operands and written words -/

/-- Settles O13: the code 0x10 is SUB_SPIRD, which takes bytes 11 to 15 as they stand. -/
theorem calibrationOperandsAreBytes11To15 : Obligations.CalibrationOperandsAreBytes11To15 := by
  intro c F hids hlen hid hcode
  rw [decode_fullOut hids hid hlen, hcode]
  rfl

/-- Settles O21: the words are concrete and the built identifiers are decided values, so the decoder runs on them. -/
theorem writtenWordsDecode : Obligations.WrittenWordsDecode := by
  refine ⟨?_, ?_, ?_, ?_, ?_, ?_, ?_⟩ <;> rfl

end Sys2Proof
end

section
/-! PROOFS. The calibration store (R120 to R124, R40): what a read answers, bank by bank, and the space as cells. -/

namespace Sys2Proof.Machine

/-! ## Reads -/

/-- `page` is the page of the known bank `bank` (R41). -/
def IsPage (c : Config) (bank : Byte) (page : List Byte) : Prop :=
  bank = 0x60 ∧ page = c.calA ∨ bank = c.calBankB ∧ page = c.calB

theorem calPage_bankB {c : Config} (h : c.calBankB ≠ 0x60) : calPage c c.calBankB = some c.calB := by
  have hne : c.calBankB ≠ calBankA := h
  simp [calPage, hne]

theorem calPage_of_isPage {c : Config} {bank : Byte} {page : List Byte} (hc : c.calBankB ≠ 0x60)
    (h : IsPage c bank page) : calPage c bank = some page := by
  rcases h with ⟨rfl, rfl⟩ | ⟨rfl, rfl⟩
  · exact calPage_bankA c
  · exact calPage_bankB hc

theorem calPage_of_unknown {c : Config} {bank : Byte} (hA : bank ≠ 0x60) (hB : bank ≠ c.calBankB) :
    calPage c bank = none := by
  have hA' : bank ≠ calBankA := hA
  simp [calPage, hA', hB]

/-- A read that succeeds is in bounds of a known bank, and answers that part of its page (R120). -/
theorem calRead_ok {c : Config} {bank off n : Byte} {bytes : List Byte} (h : calRead c bank off n = .ok bytes) :
    ∃ page, calPage c bank = some page ∧ off.toNat + n.toNat ≤ page.length ∧
      bytes = (page.drop off.toNat).take n.toNat := by
  cases hp : calPage c bank with
  | none => simp [calRead_unknown off n hp] at h
  | some page =>
    rcases Nat.lt_or_ge page.length (off.toNat + n.toNat) with hout | hin
    · simp [calRead_outOfBounds hp hout] at h
    · rw [calRead_inBounds hp hin] at h
      exact ⟨page, rfl, hin, (Except.ok.inj h).symm⟩

theorem length_slice_of_page {page : List Byte} {off n : Nat} (h : off + n ≤ page.length) :
    ((page.drop off).take n).length = n := by
  simp only [List.length_take, List.length_drop]
  omega

theorem length_of_calRead {c : Config} {bank off n : Byte} {bytes : List Byte}
    (h : calRead c bank off n = .ok bytes) : bytes.length = n.toNat := by
  obtain ⟨page, _, hin, rfl⟩ := calRead_ok h
  exact length_slice_of_page hin

/-- Settles O35: the bank decides the page, the natural sum decides the bounds, and a slice of a list is read element
by element. -/
theorem calReadIsExact : Obligations.CalReadIsExact := by
  intro c bank off n hc
  refine ⟨fun hA hB => calRead_unknown off n (calPage_of_unknown hA hB), fun page hpage => ?_⟩
  have hp : calPage c bank = some page := calPage_of_isPage hc hpage
  refine ⟨fun hout => calRead_outOfBounds hp hout,
    fun hin => ⟨_, calRead_inBounds hp hin, length_slice_of_page hin, ?_⟩⟩
  intro i hi
  have hlt : off.toNat + i < page.length := by omega
  exact ⟨by rw [List.getElem?_take_of_lt hi, List.getElem?_drop], by simp [hlt]⟩

/-! ## The space as cells -/

/-- An address determines the bank and the offset (R40). -/
theorem calAddress_inj {b b' : Byte} {off off' : Nat} (hoff : off < 256) (hoff' : off' < 256)
    (h : calAddress b off = calAddress b' off') : b = b' ∧ off = off' := by
  unfold calAddress at h
  exact ⟨BitVec.eq_of_toNat_eq (by omega), by omega⟩

/-- A bank's own cells are its page. -/
theorem lookup_pageCells_self (bank : Byte) (page : List Byte) (off : Nat) :
    (pageCells bank page).lookup (calAddress bank off) = page[off]? := by
  have shifted (k : Nat) : ((page.zipIdx k).map fun p => (calAddress bank p.2, p.1)).lookup
      (calAddress bank (k + off)) = page[off]? := by
    induction page generalizing k off with
    | nil => rfl
    | cons b page ih =>
      cases off with
      | zero => simp
      | succ off =>
        have hne : (calAddress bank (k + (off + 1)) == calAddress bank k) = false := by
          simp [calAddress]
        simpa [List.lookup, hne, Nat.add_assoc, Nat.add_comm, Nat.add_left_comm] using ih off (k + 1)
  simpa [pageCells] using shifted 0

/-- No cell of another bank's page stands at the address. -/
theorem lookup_pageCells_other {bank b : Byte} {page : List Byte} {off : Nat} (hne : b ≠ bank) (hoff : off < 256)
    (hlen : page.length ≤ 256) : (pageCells bank page).lookup (calAddress b off) = none := by
  rw [List.lookup_eq_none_iff]
  intro cell hcell
  obtain ⟨off', hoff', haddr⟩ := mem_pageCells hcell
  rw [haddr]
  simpa using fun h => hne (calAddress_inj hoff (hoff'.trans_le hlen) h).1

/-- What a constrained configuration says of the two banks and their pages (R5, R41). -/
theorem Config.wf_pages {c : Config} (h : c.wf = true) :
    c.calBankB ≠ calBankA ∧ c.calA.length ≤ 256 ∧ c.calB.length ≤ 256 := by
  simp only [Config.wf, Bool.and_eq_true, decide_eq_true_eq, bne_iff_ne] at h
  obtain ⟨⟨⟨⟨⟨⟨_, hbank⟩, _⟩, hA⟩, hB⟩, _⟩, _⟩ := h
  exact ⟨hbank, hA, hB⟩

theorem lookup_pageCells {bank b : Byte} {page : List Byte} {off : Nat} (hoff : off < 256)
    (hlen : page.length ≤ 256) :
    (pageCells bank page).lookup (calAddress b off) = if b = bank then page[off]? else none := by
  split
  next h => rw [h, lookup_pageCells_self]
  next h => exact lookup_pageCells_other h hoff hlen

/-- Settles O36: the address determines the bank, so of the two pages' cells only the bank's own can answer, and they
are its page (`lookup_pageCells`). -/
theorem calibrationCellsMatchPages : Obligations.CalibrationCellsMatchPages := by
  intro c hwf
  obtain ⟨hbank, hA, hB⟩ := Config.wf_pages hwf
  refine ⟨fun bank off hoff => ?_, fun cell hcell => ?_⟩
  · have hcells : (calMemory c).byte (calAddress bank off) =
        if bank = calBankA then c.calA[off]? else if bank = c.calBankB then c.calB[off]? else none := by
      unfold Memory.byte calMemory
      split <;> rw [List.lookup_append, lookup_pageCells hoff hA, lookup_pageCells hoff hB] <;>
        by_cases h : bank = calBankA <;> simp [h, hbank.symm]
    rw [hcells, calPage]
    split_ifs <;> rfl
  · have hmem : cell ∈ pageCells calBankA c.calA ∨ cell ∈ pageCells c.calBankB c.calB := by
      unfold calMemory at hcell
      split at hcell
      · exact List.mem_append.mp hcell
      · exact (List.mem_append.mp hcell).symm
    rcases hmem with hmem | hmem
    · obtain ⟨off, hoff, haddr⟩ := mem_pageCells hmem
      exact ⟨_, off, hoff.trans_le hA, haddr⟩
    · obtain ⟨off, hoff, haddr⟩ := mem_pageCells hmem
      exact ⟨_, off, hoff.trans_le hB, haddr⟩

end Sys2Proof.Machine
end

section
/-! PROOFS. The report codec: the group bytes (R100 to R102), round and quantize (R103 to R105), the inverse of packing
(R107), the snapshot (R109) and the frame (R110, R111). -/

namespace Sys2Proof.Machine

/-! ## Group bytes -/

/-- The bits of a byte, bit 0 first. -/
def bits (b : Byte) : List Bool := (List.range 8).map b.getLsbD

theorem bits_four_and_two : ∀ b0 b1 b2 b3 b6 b7 : Bool,
    bits (flagBit b0 0 ||| flagBit b1 1 ||| flagBit b2 2 ||| flagBit b3 3 ||| flagBit b6 6 ||| flagBit b7 7) =
      [b0, b1, b2, b3, false, false, b6, b7] := by decide

theorem bits_six : ∀ b0 b1 b2 b3 b4 b5 : Bool,
    bits (flagBit b0 0 ||| flagBit b1 1 ||| flagBit b2 2 ||| flagBit b3 3 ||| flagBit b4 4 ||| flagBit b5 5) =
      [b0, b1, b2, b3, b4, b5, false, false] := by decide

theorem nz_eq_decide (count : Nat) : nz count = decide (count ≠ 0) := by
  cases count <;> rfl

/-- Settles O26: a group byte is six flags at six places, and its bits are those flags whatever they are. -/
theorem groupBytesBitByBit : Obligations.GroupBytesBitByBit := by
  intro i
  refine ⟨bits_four_and_two _ _ _ _ _ _, bits_six _ _ _ _ _ _, ?_⟩
  simp only [← nz_eq_decide]
  exact bits_four_and_two _ _ _ _ _ _

/-! ## Round -/

theorem roundAway_of_nonneg {q : Rat} (h : 0 ≤ q) : roundAway q = ⌊q + 1 / 2⌋ := if_pos h

theorem roundAway_of_neg {q : Rat} (h : q < 0) : roundAway q = -⌊-q + 1 / 2⌋ := if_neg (not_le.mpr h)

/-- A non-negative number is rounded to the integer whose half-open interval it is in: a tie goes up. -/
theorem roundAway_bounds_of_nonneg {q : Rat} (h : 0 ≤ q) :
    (roundAway q : Rat) - 1 / 2 ≤ q ∧ q < roundAway q + 1 / 2 := by
  rw [roundAway_of_nonneg h]
  have hlo := Int.floor_le (q + 1 / 2)
  have hhi := Int.lt_floor_add_one (q + 1 / 2)
  constructor <;> linarith

/-- A negative number is rounded to the integer whose half-open interval it is in: a tie goes down. -/
theorem roundAway_bounds_of_neg {q : Rat} (h : q < 0) :
    (roundAway q : Rat) - 1 / 2 < q ∧ q ≤ roundAway q + 1 / 2 := by
  rw [roundAway_of_neg h]
  have hlo := Int.floor_le (-q + 1 / 2)
  have hhi := Int.lt_floor_add_one (-q + 1 / 2)
  push_cast
  constructor <;> linarith

theorem abs_roundAway_sub_le (q : Rat) : |(roundAway q : Rat) - q| ≤ 1 / 2 := by
  rw [abs_le]
  rcases le_or_gt 0 q with h | h
  · obtain ⟨hlo, hhi⟩ := roundAway_bounds_of_nonneg h
    constructor <;> linarith
  · obtain ⟨hlo, hhi⟩ := roundAway_bounds_of_neg h
    constructor <;> linarith

/-- Settles O29: each sign has an interval without its end nearer to zero, so at a distance of 1/2 the result is on the
far side. -/
theorem roundIsNearestAwayFromZero : Obligations.RoundIsNearestAwayFromZero := by
  refine fun q => ⟨abs_roundAway_sub_le q, fun htie => ?_⟩
  rcases le_or_gt 0 q with h | h
  · obtain ⟨hlo, hhi⟩ := roundAway_bounds_of_nonneg h
    have hround : (roundAway q : Rat) = q + 1 / 2 := by
      rcases abs_eq (by norm_num) |>.mp htie with h' | h' <;> linarith
    rw [hround, abs_of_nonneg h, abs_of_nonneg (by linarith)]
    linarith
  · obtain ⟨hlo, hhi⟩ := roundAway_bounds_of_neg h
    have hround : (roundAway q : Rat) = q - 1 / 2 := by
      rcases abs_eq (by norm_num) |>.mp htie with h' | h' <;> linarith
    rw [hround, abs_of_neg h, abs_of_neg (by linarith)]
    linarith

/-! ## Quantize -/

theorem roundAway_nonneg_iff (q : Rat) : 0 ≤ roundAway q ↔ -(1 / 2) < q := by
  rcases le_or_gt 0 q with h | h
  · rw [roundAway_of_nonneg h, Int.le_floor]
    push_cast
    constructor <;> intro <;> linarith
  · rw [roundAway_of_neg h, neg_nonneg, ← Int.lt_add_one_iff, Int.floor_lt]
    push_cast
    constructor <;> intro <;> linarith

theorem roundAway_le_iff (q : Rat) {n : Int} (hn : 0 ≤ n) : roundAway q ≤ n ↔ q < n + 1 / 2 := by
  have hn' : (0 : Rat) ≤ n := by exact_mod_cast hn
  rcases le_or_gt 0 q with h | h
  · rw [roundAway_of_nonneg h, ← Int.lt_add_one_iff, Int.floor_lt]
    push_cast
    constructor <;> intro <;> linarith
  · rw [roundAway_of_neg h, neg_le, Int.le_floor]
    push_cast
    constructor <;> intro <;> linarith

/-- The raw value is not below the range (R103). -/
theorem rawAxis_nonneg_iff (a : Rat) : 0 ≤ rawAxis a ↔ -1 - 1 / 4096 < a := by
  rw [rawAxis, roundAway_nonneg_iff, stickScale]
  constructor <;> intro <;> linarith

/-- The raw value is not above the range (R103). -/
theorem rawAxis_le_iff (a : Rat) : rawAxis a ≤ 4095 ↔ a < 1 - 1 / 4096 := by
  rw [rawAxis, roundAway_le_iff _ (by norm_num), stickScale]
  push_cast
  constructor <;> intro <;> linarith

theorem clamp_of_mem {v lo hi : Int} (hlo : lo ≤ v) (hhi : v ≤ hi) : clamp v lo hi = v := by
  rw [clamp, if_neg (not_lt.mpr hlo), if_neg (not_lt.mpr hhi)]

theorem quantize_of_inRange {a : Rat} (hlo : -1 - 1 / 4096 < a) (hhi : a < 1 - 1 / 4096) :
    (quantize a : Int) = rawAxis a := by
  have hnonneg : 0 ≤ rawAxis a := (rawAxis_nonneg_iff a).mpr hlo
  have hclamp : clamp (rawAxis a) 0 stickMax = rawAxis a := clamp_of_mem hnonneg ((rawAxis_le_iff a).mpr hhi)
  rw [quantize, hclamp, Int.toNat_of_nonneg hnonneg]

theorem quantize_of_ge {a : Rat} (h : 1 - 1 / 4096 ≤ a) : quantize a = 4095 := by
  have hgt : stickMax < rawAxis a := not_le.mp fun hle => not_lt.mpr h ((rawAxis_le_iff a).mp hle)
  have hmax : stickMax = 4095 := rfl
  rw [quantize, clamp, if_neg (by omega), if_pos hgt]
  rfl

theorem quantize_of_le {a : Rat} (h : a ≤ -1 - 1 / 4096) : quantize a = 0 := by
  have hlt : rawAxis a < 0 := not_le.mp fun hle => not_lt.mpr h ((rawAxis_nonneg_iff a).mp hle)
  rw [quantize, clamp, if_pos hlt]
  rfl

theorem quantize_le_4095 (a : Rat) : quantize a ≤ 4095 := by
  unfold quantize clamp stickMax
  split_ifs <;> omega

theorem roundAway_eq_of_near {q : Rat} {n : Int} (h : |q - n| < 1 / 2) : roundAway q = n := by
  have hdist : |(roundAway q : Rat) - n| < 1 := by
    have htri := abs_sub_le (roundAway q : Rat) q n
    have hround := abs_roundAway_sub_le q
    linarith
  have hint : |roundAway q - n| < 1 := by exact_mod_cast hdist
  exact sub_eq_zero.mp (Int.abs_lt_one_iff.mp hint)

/-- An axis within 1/2 of a 12-bit value, and so not at a tie, is quantised to that value. -/
theorem quantize_of_near {a : Rat} {n : Nat} (hn : n ≤ 4095) (h : |(1 + a) * 2048 - n| < 1 / 2) : quantize a = n := by
  have hraw : rawAxis a = n := roundAway_eq_of_near h
  have hclamp : clamp (n : Int) 0 stickMax = n := clamp_of_mem (Int.natCast_nonneg n) (Int.ofNat_le.mpr hn)
  rw [quantize, hraw, hclamp, Int.toNat_natCast]

/-- Settles O27: the raw value is in range exactly between the two bounds, and there the clamp does
nothing; each listed axis is nearer than 1/2 to its value. -/
theorem quantizeInRangeIsExact : Obligations.QuantizeInRangeIsExact := by
  refine ⟨fun a => and_congr (rawAxis_nonneg_iff a) (rawAxis_le_iff a), fun a hlo hhi => ?_, quantize_of_near ?_ ?_,
    quantize_of_near ?_ ?_, quantize_of_near ?_ ?_, quantize_of_near ?_ ?_, quantize_of_near ?_ ?_,
    quantize_of_near ?_ ?_, quantize_of_near ?_ ?_⟩
  · have hraw : (quantize a : Int) = rawAxis a := quantize_of_inRange hlo hhi
    have hrat : (quantize a : Rat) = (rawAxis a : Rat) := by exact_mod_cast congrArg (Int.cast : Int → Rat) hraw
    exact ⟨hraw, hrat ▸ abs_roundAway_sub_le _⟩
  all_goals norm_num [abs_lt]

/-- Settles O28: beyond either bound the raw value is out of range, and the clamp gives the end of the range. -/
theorem quantizeClampsOutside : Obligations.QuantizeClampsOutside :=
  fun a => ⟨quantize_le_4095 a, quantize_of_ge, quantize_of_le⟩

/-! ## Packing -/

/-- R107 with its shifts and its `|` as arithmetic. -/
theorem unpack12_eq_arith (p0 p1 p2 : Byte) :
    unpack12 p0 p1 p2 = (p1.toNat % 16 * 256 + p0.toNat, p2.toNat * 16 + p1.toNat / 16) := by
  have hnibble : p1.toNat &&& 0x0f = p1.toNat % 16 := Nat.and_two_pow_sub_one_eq_mod _ 4
  have hlow : p1.toNat / 16 < 16 := by omega
  rw [unpack12, hnibble, Nat.shiftRight_eq_div_pow, Nat.or_comm, Nat.or_comm (p1.toNat / 2 ^ 4),
    nibbles_or_eq_add _ hlow, ← Nat.shiftLeft_add_eq_or_of_lt p0.isLt, Nat.shiftLeft_eq]

theorem unpack12_ofNat {n0 n1 n2 : Nat} (h0 : n0 < 256) (h1 : n1 < 256) (h2 : n2 < 256) :
    unpack12 (BitVec.ofNat 8 n0) (BitVec.ofNat 8 n1) (BitVec.ofNat 8 n2) = (n1 % 16 * 256 + n0, n2 * 16 + n1 / 16) := by
  rw [unpack12_eq_arith, BitVec.toNat_ofNat, BitVec.toNat_ofNat, BitVec.toNat_ofNat, Nat.mod_eq_of_lt h0,
    Nat.mod_eq_of_lt h1, Nat.mod_eq_of_lt h2]

/-- Unpacking gives back every pair of 12-bit values. -/
theorem unpack12_of_pack12 {a b : Nat} (ha : a < 4096) (hb : b < 4096) :
    ∃ p0 p1 p2, pack12 a b = [p0, p1, p2] ∧ unpack12 p0 p1 p2 = (a, b) := by
  refine ⟨_, _, _, pack12_eq_arith a b, ?_⟩
  rw [unpack12_ofNat (by omega) (by omega) (by omega), Prod.mk.injEq]
  omega

theorem ofNat_eq_byte {n : Nat} {p : Byte} (h : n = p.toNat) : BitVec.ofNat 8 n = p := by
  rw [h, BitVec.ofNat_toNat, BitVec.setWidth_eq]

/-- Settles O31: both directions are the division and remainder of R106 and R107 undoing each other. -/
theorem packAndUnpackAreInverse : Obligations.PackAndUnpackAreInverse := by
  refine ⟨fun a b => unpack12_of_pack12, fun p0 p1 p2 => ?_⟩
  rw [unpack12_eq_arith]
  have h0 := p0.isLt
  have h1 := p1.isLt
  have h2 := p2.isLt
  refine ⟨by dsimp only; omega, by dsimp only; omega, ?_⟩
  dsimp only
  rw [pack12_eq_arith, ofNat_eq_byte (p := p0), ofNat_eq_byte (p := p1), ofNat_eq_byte (p := p2)] <;> omega

/-! ## Snapshot and frame -/

/-- Settles O32: the layout is the definition's, and the stick bytes unpack because quantize stays below 4096. -/
theorem snapshotLayout : Obligations.SnapshotLayout := by
  intro c i
  have fits (a : Rat) : quantize a < 4096 := Nat.lt_succ_of_le (quantize_le_4095 a)
  obtain ⟨l0, l1, l2, hleft, hunleft⟩ := unpack12_of_pack12 (fits i.stickLeft.x) (fits i.stickLeft.y)
  obtain ⟨r0, r1, r2, hright, hunright⟩ := unpack12_of_pack12 (fits i.stickRight.x) (fits i.stickRight.y)
  refine ⟨l0, l1, l2, r0, r1, r2, ?_, hunleft, hunright⟩
  rw [snapshot, hleft, hright]
  rfl

/-- Settles O33: a payload that fits is followed by the zeros that are missing to 62. -/
theorem frameIsAlways64Bytes : Obligations.FrameIsAlways64Bytes := by
  refine fun id b1 payload => ⟨fun hle => ?_, frame_of_gt⟩
  have hframe := frame_of_le (id := id) (b1 := b1) hle
  exact ⟨_, hframe, length_of_frame hframe, rfl, rfl, List.take_left,
    by simp [Nat.add_comm 2]⟩

end Sys2Proof.Machine
end

section
/-! PROOFS. What a command does, said once over all commands: it reads the configuration, SEQ and the sampled bank, and
its whole effect is a change of RPT_EN, a rise of FAULT, at most one outbound frame, and diagnostics (R130, R156). -/

namespace Sys2Proof.Machine

/-! ## The outbound formats -/

/-- The unused bits of a group byte are 0 whatever the flags are (R100 to R102). -/
theorem four_and_two_flags_mask : ∀ b0 b1 b2 b3 b6 b7 : Bool,
    (flagBit b0 0 ||| flagBit b1 1 ||| flagBit b2 2 ||| flagBit b3 3 ||| flagBit b6 6 ||| flagBit b7 7) &&& 0x30
      = 0 := by decide

theorem six_flags_mask : ∀ b0 b1 b2 b3 b4 b5 : Bool,
    (flagBit b0 0 ||| flagBit b1 1 ||| flagBit b2 2 ||| flagBit b3 3 ||| flagBit b4 4 ||| flagBit b5 5) &&& 0xc0
      = 0 := by decide

/-- A snapshot after two bytes has its shape there, whatever follows (R109). -/
theorem hasSnapshotShape_snapshot (c : Config) (id b1 : Byte) (i : InputState) (rest : List Byte) :
    hasSnapshotShape c ([id, b1] ++ snapshot c i ++ rest) = true := by
  have hleft : groupLeft i &&& 0x30 = 0 := four_and_two_flags_mask _ _ _ _ _ _
  have hcenter : groupCenter i &&& 0xc0 = 0 := six_flags_mask _ _ _ _ _ _
  have hright : groupRight i &&& 0x30 = 0 := four_and_two_flags_mask _ _ _ _ _ _
  simp only [hasSnapshotShape, Bool.and_eq_true, beq_iff_eq]
  exact ⟨⟨⟨⟨rfl, hleft⟩, hcenter⟩, hright⟩, rfl⟩

/-- The identity reply (R66, R131). -/
theorem isOutbound_identReply (c : Config) : isOutbound c ([0x81, 0x01] ++ hsIdent ++ zeros 54) = true := by
  have h81 : isO81 ([0x81, 0x01] ++ hsIdent ++ zeros 54) = true := by decide
  simp only [isOutbound, h81, Bool.true_or, Bool.and_true]
  decide

/-- A reply that echoes a code and carries nothing (R66, R132, R133, R138). -/
theorem isOutbound_emptyReply (c : Config) {code : Byte} (h : code ∈ [0x02, 0x03, 0x04, 0x05]) :
    isOutbound c ([0x81, code] ++ zeros 62) = true := by
  have h81 : isO81 ([0x81, code] ++ zeros 62) = true := by
    revert code
    decide
  have hlen : ([0x81, code] ++ zeros 62).length = frameLen := rfl
  simp only [isOutbound, h81, hlen, beq_self_eq_true, Bool.true_or, Bool.and_true]

/-- A reply to a sub-command of the table, with one of its ack bytes and data that fits (R67, R69). -/
theorem isOutbound_replyFrame (s : State) {ack sc : Byte} {data : List Byte} (hsc : sc ∈ subCommandCodes)
    (hack : ack ∈ [0x00, 0x80, 0x80 ||| sc]) (hdata : data.length ≤ 49) :
    isOutbound s.cfg (replyFrame s ack sc data) = true := by
  have hlen : (replyFrame s ack sc data).length = frameLen := by
    simp only [replyFrame, List.length_append, snapshot_length, List.length_cons, List.length_nil, zeros_length,
      frameLen]
    omega
  have hshape : hasSnapshotShape s.cfg (replyFrame s ack sc data) = true := by
    simpa only [replyFrame, List.append_assoc] using
      hasSnapshotShape_snapshot s.cfg 0x21 s.seq s.sampled ([ack, sc] ++ (data ++ zeros (49 - data.length)))
  have h13 : byteAt (replyFrame s ack sc data) 13 = ack := rfl
  have h14 : byteAt (replyFrame s ack sc data) 14 = sc := rfl
  have h21 : isO21 s.cfg (replyFrame s ack sc data) = true := by
    simp only [isO21, Bool.and_eq_true, h13, h14, List.contains_iff_mem]
    exact ⟨⟨⟨rfl, hshape⟩, hsc⟩, hack⟩
  simp only [isOutbound, hlen, h21, beq_self_eq_true, Bool.or_true, Bool.true_or, Bool.and_true]

/-- The periodic report (R68). -/
theorem isOutbound_report (c : Config) (seq : Byte) (i : InputState) :
    isOutbound c ([0x30, seq] ++ snapshot c i ++ zeros 51) = true := by
  have h30 : isO30 c ([0x30, seq] ++ snapshot c i ++ zeros 51) = true := by
    simp only [isO30, hasSnapshotShape_snapshot, Bool.and_true]
    rfl
  have hlen : ([0x30, seq] ++ snapshot c i ++ zeros 51).length = frameLen := rfl
  simp only [isOutbound, hlen, h30, beq_self_eq_true, Bool.or_true, Bool.and_true]

theorem length_of_isOutbound {c : Config} {f : List Byte} (h : isOutbound c f = true) : f.length = 64 := by
  simp only [isOutbound, Bool.and_eq_true, beq_iff_eq] at h
  exact h.1

/-! ## The effect of a command -/

/-- What a command does to the state. -/
structure Effect where
  /-- The value written to RPT_EN, if any. -/
  rptEn : Option Bool := none
  /-- Whether FAULT is set (R205). -/
  overflow : Bool := false
  /-- The frames transmitted, oldest first. -/
  frames : List (List Byte) := []
  /-- The diagnostics recorded, oldest first. -/
  diag : List Diag := []

/-- A frame with its FrameOut diagnostic, after other diagnostics (R219). -/
def Effect.sends (before : List Diag) (f : List Byte) : Effect := { frames := [f], diag := before ++ [.frameOut f] }

/-- The state after an effect. -/
def State.apply (s : State) (e : Effect) : State :=
  { s with
    rptEn := e.rptEn.getD s.rptEn
    fault := e.overflow || s.fault
    tx := s.tx ++ e.frames
    diag := s.diag ++ e.diag }

/-- What a command writes to RPT_EN (R134, R135). -/
def rptEnWrite : Instr → Option Bool
  | .hsRptOn => some true
  | .hsRptOff => some false
  | _ => none

/-- A calibration read of more bytes than a reply holds (R205). -/
def IsOverlongRead (i : Instr) : Prop :=
  ∃ off bank hdr13 hdr14 n, i = .subSpird off bank hdr13 hdr14 n ∧ 44 < n.toNat

/-- What the effect of a command is held to: its own write of RPT_EN, at most one frame in an outbound format, and FAULT
only for an over-long read, without a frame. -/
structure Effect.Of (c : Config) (i : Instr) (e : Effect) : Prop where
  rptEn : e.rptEn = rptEnWrite i
  frames : e.frames = [] ∨ ∃ f, e.frames = [f] ∧ isOutbound c f = true
  overflow : e.overflow = true → e.frames = [] ∧ IsOverlongRead i

/-- Two states agree in what a command reads. -/
structure State.SameReads (r s : State) : Prop where
  cfg : s.cfg = r.cfg
  seq : s.seq = r.seq
  sampled : s.sampled = r.sampled

/-- The command has this effect on every state that agrees with `r` in what a command reads. -/
def Effect.Runs (r : State) (i : Instr) (e : Effect) : Prop :=
  ∀ s, r.SameReads s → exec i s = .next (s.apply e)

theorem State.SameReads.refl (s : State) : s.SameReads s := ⟨rfl, rfl, rfl⟩

theorem State.SameReads.replyFrame {r s : State} (h : r.SameReads s) (ack sc : Byte) (data : List Byte) :
    replyFrame s ack sc data = Machine.replyFrame r ack sc data := by
  rw [Machine.replyFrame, Machine.replyFrame, h.cfg, h.seq, h.sampled]

/-- An effect that is a frame and diagnostics. -/
theorem Effect.of_sends {c : Config} {i : Instr} {f : List Byte} (before : List Diag) (hrpt : rptEnWrite i = none)
    (hout : isOutbound c f = true) : (Effect.sends before f).Of c i :=
  ⟨hrpt.symm, .inr ⟨f, rfl, hout⟩, nofun⟩

/-- An effect that is diagnostics only. -/
theorem Effect.of_diag {c : Config} {i : Instr} (diag : List Diag) (hrpt : rptEnWrite i = none) :
    Effect.Of c i { diag := diag } :=
  ⟨hrpt.symm, .inl rfl, nofun⟩

theorem State.apply_nothing (s : State) : s.apply {} = s := by simp [State.apply]

theorem State.apply_record (s : State) (d : Diag) : s.apply { diag := [d] } = s.record d := by
  simp [State.apply, State.record]

theorem State.apply_sends (s : State) (f : List Byte) : s.apply (.sends [] f) = s.sent f := rfl

theorem State.apply_sends_one (s : State) (d : Diag) (f : List Byte) :
    s.apply (.sends [d] f) = (s.record d).sent f := by
  simp [State.apply, Effect.sends, State.record, State.sent]

/-! ## The commands with an empty or fixed reply -/

theorem effect_handshakeReply {r : State} {i : Instr} {f : List Byte} (hrpt : rptEnWrite i = none)
    (hout : isOutbound r.cfg f = true) (harm : ∀ s, exec i s = .next (s.sent f)) :
    ∃ e : Effect, e.Of r.cfg i ∧ e.Runs r i :=
  ⟨_, Effect.of_sends [] hrpt hout, fun s _ => harm s⟩

theorem effect_diagnostic {r : State} {i : Instr} {d : Diag} (hrpt : rptEnWrite i = none)
    (harm : ∀ s, exec i s = .next (s.record d)) : ∃ e : Effect, e.Of r.cfg i ∧ e.Runs r i :=
  ⟨_, Effect.of_diag [d] hrpt, fun s _ => (harm s).trans (by rw [State.apply_record])⟩

/-- An acknowledged sub-command: its data comes from the configuration and fits (R66, R141 to R153). -/
theorem effect_subReply {r : State} {i : Instr} {sc : Byte} {data : Config → List Byte} (hrpt : rptEnWrite i = none)
    (hsc : sc ∈ subCommandCodes) (hdata : (data r.cfg).length ≤ 49)
    (harm : ∀ s, exec i s = .next (subReply true sc (data s.cfg) s)) : ∃ e : Effect, e.Of r.cfg i ∧ e.Runs r i := by
  have hack : ackByte true sc (data r.cfg).length ∈ [0x00, 0x80, 0x80 ||| sc] := by
    by_cases hlen : (data r.cfg).length = 0
    · simp [hlen, ackByte_acked_empty]
    · simp [ackByte_acked_data sc hlen]
  refine ⟨_, Effect.of_sends [] hrpt (isOutbound_replyFrame r hsc hack hdata), fun s hs => ?_⟩
  rw [harm, hs.cfg, subReply_of_le s hdata, hs.replyFrame, State.apply_sends]

/-! ## The commands that write RPT_EN -/

theorem exec_hsRptOn (s : State) : exec .hsRptOn s = .next (echoCommand 0x04 { s with rptEn := true }) := rfl

theorem exec_hsRptOff (s : State) : exec .hsRptOff s = .next (echoCommand 0x05 { s with rptEn := false }) := rfl

theorem effect_rptEn {r : State} {i : Instr} {on : Bool} {code : Byte} (hrpt : rptEnWrite i = some on)
    (hcode : code ∈ [0x02, 0x03, 0x04, 0x05])
    (harm : ∀ s, exec i s = .next (echoCommand code { s with rptEn := on })) :
    ∃ e : Effect, e.Of r.cfg i ∧ e.Runs r i := by
  cases hecho : r.cfg.pEchoEn with
  | false =>
    refine ⟨{ rptEn := some on }, ⟨hrpt.symm, .inl rfl, nofun⟩, fun s hs => ?_⟩
    rw [harm, echoCommand_off (by simpa [hs.cfg] using hecho)]
    simp [State.apply]
  | true =>
    refine ⟨{ Effect.sends [] ([0x81, code] ++ zeros 62) with rptEn := some on },
      ⟨hrpt.symm, .inr ⟨_, rfl, isOutbound_emptyReply r.cfg hcode⟩, nofun⟩, fun s hs => ?_⟩
    rw [harm, echoCommand_on (by simpa [hs.cfg] using hecho)]
    rfl

/-! ## SUB_SPIRD in its three outcomes (R152, R208) -/

theorem exec_subSpird_miss {s : State} {off bank n : Byte} {err : Condition} (hdr13 hdr14 : Byte)
    (h : calRead s.cfg bank off n = .error err) :
    exec (.subSpird off bank hdr13 hdr14 n) s =
      .next ((s.record (.calMiss bank off n)).sent (replyFrame s 0x00 0x10 [])) := by
  have harm : exec (.subSpird off bank hdr13 hdr14 n) s =
      .next (subReply false 0x10 [] (s.record (.calMiss bank off n))) := by
    simp only [exec, execSubSpird, h]
  exact harm.trans (congrArg _ (subReply_of_le (data := []) _ (Nat.zero_le 49)))

theorem exec_subSpird_hit {s : State} {off bank n : Byte} {bytes : List Byte} (hdr13 hdr14 : Byte)
    (h : calRead s.cfg bank off n = .ok bytes) (hn : n.toNat ≤ 44) :
    exec (.subSpird off bank hdr13 hdr14 n) s =
      .next ((s.record (.calHit bank off n)).sent
        (replyFrame s 0x90 0x10 (addressHeader off bank hdr13 hdr14 n ++ bytes))) := by
  have hfits : 5 + n.toNat ≤ subDataMax := by
    unfold subDataMax
    omega
  have hlen : (addressHeader off bank hdr13 hdr14 n ++ bytes).length = bytes.length + 5 := by
    rw [List.length_append, Nat.add_comm]
    rfl
  have harm : exec (.subSpird off bank hdr13 hdr14 n) s = .next (subReply true 0x10
      (addressHeader off bank hdr13 hdr14 n ++ bytes) (s.record (.calHit bank off n))) := by
    simp only [exec, execSubSpird, h, hfits, if_true]
  have hle : (addressHeader off bank hdr13 hdr14 n ++ bytes).length ≤ 49 := by
    have := length_of_calRead h
    omega
  rw [harm, subReply_of_le _ hle, hlen, ackByte_acked_data _ (Nat.succ_ne_zero _)]
  rfl

theorem exec_subSpird_overflow {s : State} {off bank n : Byte} {bytes : List Byte} (hdr13 hdr14 : Byte)
    (h : calRead s.cfg bank off n = .ok bytes) (hn : 44 < n.toNat) :
    exec (.subSpird off bank hdr13 hdr14 n) s = .next { s.record (.calHit bank off n) with fault := true } := by
  have hlong : ¬ 5 + n.toNat ≤ subDataMax := by
    unfold subDataMax
    omega
  simp only [exec, execSubSpird, h, hlong, if_false, raise_frameOverflow]

theorem effect_subSpird (r : State) (off bank hdr13 hdr14 n : Byte) :
    ∃ e : Effect, e.Of r.cfg (.subSpird off bank hdr13 hdr14 n) ∧ e.Runs r (.subSpird off bank hdr13 hdr14 n) := by
  have hsc : (0x10 : Byte) ∈ subCommandCodes := by decide
  cases hread : calRead r.cfg bank off n with
  | error err =>
    refine ⟨_, Effect.of_sends [.calMiss bank off n] rfl
      (isOutbound_replyFrame r (ack := 0x00) (data := []) hsc (by simp) (Nat.zero_le 49)), fun s hs => ?_⟩
    rw [exec_subSpird_miss hdr13 hdr14 (hs.cfg ▸ hread), hs.replyFrame, State.apply_sends_one]
  | ok bytes =>
    rcases Nat.lt_or_ge 44 n.toNat with hlong | hfits
    · refine ⟨{ overflow := true, diag := [.calHit bank off n] },
        ⟨rfl, .inl rfl, fun _ => ⟨rfl, off, bank, hdr13, hdr14, n, rfl, hlong⟩⟩, fun s hs => ?_⟩
      rw [exec_subSpird_overflow hdr13 hdr14 (hs.cfg ▸ hread) hlong]
      simp [State.apply, State.record]
    · have hdata : (addressHeader off bank hdr13 hdr14 n ++ bytes).length ≤ 49 := by
        rw [List.length_append, length_of_calRead hread]
        exact Nat.add_le_add_left hfits 5
      refine ⟨_, Effect.of_sends [.calHit bank off n] rfl
        (isOutbound_replyFrame r (ack := 0x90) hsc (by simp) hdata), fun s hs => ?_⟩
      rw [exec_subSpird_hit hdr13 hdr14 (hs.cfg ▸ hread) hfits, hs.replyFrame, State.apply_sends_one]

/-! ## Every command -/

theorem exec_ignore (rid : Byte) (s : State) : exec (.ignore rid) s = .next s := rfl

theorem exec_rptUnk (rid : Byte) (s : State) : exec (.rptUnk rid) s = .next (raise (.unknownReport rid) s) := rfl

/-- Every command has one effect, which depends on what a command reads only (R130, R156). -/
theorem exec_effect (r : State) (i : Instr) : ∃ e : Effect, e.Of r.cfg i ∧ e.Runs r i := by
  have noData {i : Instr} {sc : Byte} (hrpt : rptEnWrite i = none) (hsc : sc ∈ subCommandCodes)
      (harm : ∀ s, exec i s = .next (subReply true sc [] s)) : ∃ e : Effect, e.Of r.cfg i ∧ e.Runs r i :=
    effect_subReply (data := fun _ => []) hrpt hsc (Nat.zero_le 49) harm
  have fixed {i : Instr} {sc : Byte} {n : Nat} (data : Config → Vector Byte n) (hrpt : rptEnWrite i = none)
      (hsc : sc ∈ subCommandCodes) (hn : n ≤ 49)
      (harm : ∀ s, exec i s = .next (subReply true sc (data s.cfg).toList s)) :
      ∃ e : Effect, e.Of r.cfg i ∧ e.Runs r i :=
    effect_subReply (data := fun c => (data c).toList) hrpt hsc (Vector.length_toList.trans_le hn) harm
  cases i with
  | hsInit =>
    have identFits : hsIdent.length ≤ 62 := by decide
    exact effect_handshakeReply rfl (isOutbound_identReply r.cfg) fun s =>
      congrArg Host.Outcome.next (hsReply_of_le s identFits)
  | hsBaud2 =>
    exact effect_handshakeReply rfl (isOutbound_emptyReply r.cfg (by decide)) fun s =>
      congrArg Host.Outcome.next (hsReply_nil 0x02 s)
  | hsBaud3 =>
    exact effect_handshakeReply rfl (isOutbound_emptyReply r.cfg (by decide)) fun s =>
      congrArg Host.Outcome.next (hsReply_nil 0x03 s)
  | hsRptOn => exact effect_rptEn rfl (by decide) exec_hsRptOn
  | hsRptOff => exact effect_rptEn rfl (by decide) exec_hsRptOff
  | hsUnk | subUnk | rptUnk => exact effect_diagnostic rfl fun _ => rfl
  | ignore rid => exact ⟨{}, Effect.of_diag [] rfl, fun s _ => (exec_ignore rid s).trans (by rw [State.apply_nothing])⟩
  | subPair => exact fixed Config.sub01Reply rfl (by decide) (by decide) exec_subPair
  | subDevinfo => exact fixed Config.sub02Reply rfl (by decide) (by decide) exec_subDevinfo
  | subVib => exact fixed Config.sub21Reply rfl (by decide) (by decide) exec_subVib
  | subCfg03 | subTime | subCfg08 | subCfg30 | subCfg38 | subCfg40 | subCfg41 | subCfg48 =>
    exact noData rfl (by decide) fun _ => rfl
  | subSpird off bank hdr13 hdr14 n => exact effect_subSpird r off bank hdr13 hdr14 n

/-- The effect of a command that ran. -/
theorem effect_of_exec {i : Instr} {s t : State} (h : exec i s = .next t) :
    ∃ e : Effect, e.Of s.cfg i ∧ t = s.apply e := by
  obtain ⟨e, hof, hruns⟩ := exec_effect s i
  exact ⟨e, hof, Host.Outcome.next.inj (h.symm.trans (hruns s (.refl s)))⟩

end Sys2Proof.Machine
end

section
/-! PROOFS. The commands, from their effects: the calibration read, the frames without a reply, what every command
leaves unchanged; and the conditions. -/

namespace Sys2Proof.Machine

/-! ## SUB_SPIRD -/

/-- The reply to a calibration read with its header and bytes written out (R63, R67, R152). -/
theorem replyFrame_calibration (s : State) (off bank hdr13 hdr14 n : Byte) {bytes : List Byte}
    (hlen : bytes.length = n.toNat) :
    replyFrame s 0x90 0x10 (addressHeader off bank hdr13 hdr14 n ++ bytes) =
      [0x21, s.seq] ++ snapshot s.cfg s.sampled ++ [0x90, 0x10, off, bank, hdr13, hdr14, n] ++ bytes
        ++ zeros (44 - n.toNat) := by
  have hpad : 49 - (addressHeader off bank hdr13 hdr14 n ++ bytes).length = 44 - n.toNat := by
    rw [List.length_append, hlen, addressHeader, List.length_cons, List.length_cons, List.length_cons,
      List.length_cons, List.length_cons, List.length_nil]
    omega
  rw [replyFrame, hpad]
  simp [addressHeader]

/-- The whole next state after a diagnostic and a frame. -/
theorem record_sent_eq (s : State) (d : Diag) (f : List Byte) :
    (s.record d).sent f = { s with tx := s.tx ++ [f], diag := s.diag ++ [d, .frameOut f] } := by
  simp [State.record, State.sent]

/-- Settles O14: the read is in bounds and fits, so the reply is the header and the bytes. -/
theorem calibrationReadReplies : Obligations.CalibrationReadReplies := by
  intro s off bank hdr13 hdr14 n page hc hpage hin hn
  have hread := calRead_inBounds (calPage_of_isPage hc hpage) hin
  rw [exec_subSpird_hit hdr13 hdr14 hread hn, record_sent_eq,
    replyFrame_calibration s off bank hdr13 hdr14 n (length_slice_of_page hin)]

theorem calRead_of_miss {c : Config} {off bank n : Byte} (hc : c.calBankB ≠ 0x60)
    (h : (bank ≠ 0x60 ∧ bank ≠ c.calBankB) ∨ (bank = 0x60 ∧ c.calA.length < off.toNat + n.toNat) ∨
      (bank = c.calBankB ∧ c.calB.length < off.toNat + n.toNat)) :
    calRead c bank off n = .error .notFound := by
  rcases h with ⟨hA, hB⟩ | ⟨rfl, hout⟩ | ⟨rfl, hout⟩
  · exact calRead_unknown off n (calPage_of_unknown hA hB)
  · exact calRead_outOfBounds (calPage_bankA c) hout
  · exact calRead_outOfBounds (calPage_bankB hc) hout

/-- Settles O15: in each of the three cases the read is NotFound, which is answered by a reply without data. -/
theorem calibrationMissIsNacked : Obligations.CalibrationMissIsNacked := by
  intro s off bank hdr13 hdr14 n hc hmiss
  have hframe : replyFrame s 0x00 0x10 [] =
      [0x21, s.seq] ++ snapshot s.cfg s.sampled ++ [0x00, 0x10] ++ zeros 49 := by simp [replyFrame]
  rw [exec_subSpird_miss hdr13 hdr14 (calRead_of_miss hc hmiss), record_sent_eq, hframe]

/-- Settles O16: the read is in bounds and does not fit, which is FrameOverflow. -/
theorem calibrationOverflowSetsFault : Obligations.CalibrationOverflowSetsFault := by
  intro s off bank hdr13 hdr14 n page hc hpage hin hn
  have hread := calRead_inBounds (calPage_of_isPage hc hpage) hin
  rw [exec_subSpird_overflow hdr13 hdr14 hread hn]
  rfl

/-! ## RPT_EN, and the frames of neither format -/

theorem exec_hsRptOn_silent {s : State} (h : s.cfg.pEchoEn = false) :
    exec .hsRptOn s = .next { s with rptEn := true } :=
  congrArg Host.Outcome.next (echoCommand_off (s := { s with rptEn := true }) h)

theorem exec_hsRptOff_silent {s : State} (h : s.cfg.pEchoEn = false) :
    exec .hsRptOff s = .next { s with rptEn := false } :=
  congrArg Host.Outcome.next (echoCommand_off (s := { s with rptEn := false }) h)

theorem exec_hsRptOn_echo {s : State} (h : s.cfg.pEchoEn = true) :
    exec .hsRptOn s = .next ({ s with rptEn := true }.sent ([0x81, 0x04] ++ zeros 62)) :=
  congrArg Host.Outcome.next (echoCommand_on (s := { s with rptEn := true }) h)

theorem exec_hsRptOff_echo {s : State} (h : s.cfg.pEchoEn = true) :
    exec .hsRptOff s = .next ({ s with rptEn := false }.sent ([0x81, 0x05] ++ zeros 62)) :=
  congrArg Host.Outcome.next (echoCommand_on (s := { s with rptEn := false }) h)

/-- Settles O9: the two commands write RPT_EN and end with the optional echo, which P_ECHO_EN turns on and off. -/
theorem reportCommandsWriteRptEn : Obligations.ReportCommandsWriteRptEn := by
  exact ⟨selectsHandshake_decodeHandshake 0x04, selectsHandshake_decodeHandshake 0x05, rfl, fun _ =>
    ⟨fun hoff => ⟨exec_hsRptOn_silent hoff, exec_hsRptOff_silent hoff⟩,
      fun hon => ⟨exec_hsRptOn_echo hon, exec_hsRptOff_echo hon⟩⟩⟩

/-- Settles O18: an identifier of no class is answered by its condition, which is recorded and does nothing else. -/
theorem unknownReportIsDropped : Obligations.UnknownReportIsDropped := by
  have selects (c : Config) (rid : Byte) (rest : List Byte) (husb : rid ≠ 0x80) (hout : rid ≠ c.ridFullOut)
      (hign : rid ∉ c.ridIgnored) : decode c (rid :: rest) = .ok (.rptUnk rid) :=
    decode_unknownReport (List.cons_ne_nil _ _) husb hout (by simpa using hign)
  refine ⟨selects, fun rest rid hrid => ?_, fun rid s => ?_⟩
  · have hbuilt : rid ≠ 0x80 ∧ rid ≠ Config.configured.ridFullOut ∧ rid ∉ Config.configured.ridIgnored := by
      revert rid
      decide
    obtain ⟨husb, hout, hign⟩ := hbuilt
    exact selects _ rid rest husb hout hign
  · rw [exec_rptUnk, raise_unknownReport]
    rfl

/-- Settles O19: an identifier of RID_IGNORED selects the command that does nothing. -/
theorem ignoredReportHasNoEffect : Obligations.IgnoredReportHasNoEffect := by
  have selects (c : Config) (rid : Byte) (rest : List Byte) (husb : rid ≠ 0x80) (hout : rid ≠ c.ridFullOut)
      (hign : rid ∈ c.ridIgnored) : decode c (rid :: rest) = .ok (.ignore rid) :=
    decode_ignored (List.cons_ne_nil _ _) husb hout (by simpa using hign)
  exact ⟨selects, fun rest => selects _ 0x10 rest (by decide) (by decide) (by decide), exec_ignore⟩

/-! ## All commands -/

/-- Settles O38: the frame rule of the commands gives every command its next state. -/
theorem everyCommandCompletes : Obligations.EveryCommandCompletes := by
  intro i s
  obtain ⟨t, hexec, _⟩ := exec_commandWrites i s
  exact ⟨t, hexec⟩

theorem rptEnWrite_eq_none {i : Instr} (hon : i ≠ .hsRptOn) (hoff : i ≠ .hsRptOff) : rptEnWrite i = none := by
  unfold rptEnWrite
  split
  · exact absurd rfl hon
  · exact absurd rfl hoff
  · rfl

theorem Effect.Of.overflow_eq_false {c : Config} {i : Instr} {e : Effect} (h : e.Of c i) (hi : ¬ IsOverlongRead i) :
    e.overflow = false :=
  Bool.eq_false_iff.mpr fun hover => hi (h.overflow hover).2

theorem Effect.Of.tx_cases {c : Config} {i : Instr} {e : Effect} (h : e.Of c i) (s : State) :
    (s.apply e).tx = s.tx ∨ ∃ f, (s.apply e).tx = s.tx ++ [f] ∧ isOutbound c f = true := by
  rcases h.frames with hnone | ⟨f, hone, hout⟩
  · exact .inl (by simp [State.apply, hnone])
  · exact .inr ⟨f, by simp [State.apply, hone], hout⟩

/-- At most one frame of 64 bytes has been transmitted, after those already transmitted (R28). -/
theorem atMostOneFrame_of_outbound {c : Config} {old new : List (List Byte)}
    (h : new = old ∨ ∃ f, new = old ++ [f] ∧ isOutbound c f = true) :
    new = old ∨ ∃ f, new = old ++ [f] ∧ f.length = 64 :=
  h.imp_right fun ⟨f, htx, hout⟩ => ⟨f, htx, length_of_isOutbound hout⟩

/-- Settles O39: an effect has no place for the elements that are kept, and what it may do to the others depends on the
command (`Effect.Of`). -/
theorem commandsKeepTheRest : Obligations.CommandsKeepTheRest := by
  intro i s t hexec
  obtain ⟨e, hof, rfl⟩ := effect_of_exec hexec
  refine ⟨rfl, rfl, rfl, rfl, fun bank off => State.calByte_congr rfl bank off, rfl, rfl, rfl, rfl, rfl, rfl,
    fun hon hoff => ?_, fun hi => ?_, fun hfault => ?_, atMostOneFrame_of_outbound (hof.tx_cases s)⟩
  · have hnone : e.rptEn = none := hof.rptEn.trans (rptEnWrite_eq_none hon hoff)
    simp [State.apply, hnone]
  · have hover : e.overflow = false :=
      hof.overflow_eq_false fun ⟨off, bank, hdr13, hdr14, n, hspird, _⟩ => hi off bank hdr13 hdr14 n hspird
    simp [State.apply, hover]
  · simp [State.apply, hfault]

/-! ## The conditions -/

/-- Settles O6: each condition is one row of R200. -/
theorem conditionsHaveOnlyTheirEffects : Obligations.ConditionsHaveOnlyTheirEffects := by
  intro s
  refine ⟨raise_frameOverflow s, raise_alreadyConnected s, raise_deviceOpenFailed s, raise_notFound s, fun hdiag => ?_,
    fun howner => ?_, fun c hover hconnected hfailed hfound hclosed => ?_⟩
  · rw [raise_notConnected, raiseNotConnected_diagnosticOnly hdiag]
    rfl
  · rw [raise_notConnected, raiseNotConnected_toOwner howner]
    rfl
  · cases c with
    | shortFrame | unknownReport | unknownHandshake | unknownSubcommand => rfl
    | notFound => exact absurd rfl hfound
    | frameOverflow => exact absurd rfl hover
    | alreadyConnected => exact absurd rfl hconnected
    | deviceOpenFailed => exact absurd rfl hfailed
    | notConnected => exact absurd rfl hclosed

end Sys2Proof.Machine
end

section
/-! PROOFS. One step (R33, R170 to R178): what it does for each event, as equations; and, read backwards, the cases of a
step that answered, from which the statements about every step follow. -/

namespace Sys2Proof.Machine

/-! ## The state around an event -/

/-- An event that is no INPUT_WRITE leaves the schedule and ends the run of adjacent writes (R50). -/
def State.ending (s : State) (es : List Event) : State := { s with sched := es, runStart := s.input, runWrites := [] }

/-- An event that reads the InputState has left the schedule, with the frames `rx` still waiting, and has sampled the
bank with its tear (R31, R50). -/
def State.reading (s : State) (tear : Tear) (es : List Event) (rx : List (List Byte)) : State :=
  { s with
    sched := es, rx := rx, runStart := s.input, runWrites := []
    sampled := sampleInput tear s.runStart (s.runWrites ++ writesNext rx.isEmpty es) s.input }

/-! ## The parser's turn -/

theorem receive_command {s : State} {F : List Byte} {i : Instr} (h : decode s.cfg F = .ok i) :
    receive F s = exec i (s.record (.frameIn F)) := by
  simp only [receive, h]

theorem receive_shortFrame {s : State} {F : List Byte} {len : Nat} (h : decode s.cfg F = .error (.shortFrame len)) :
    receive F s = .next ((s.record (.frameIn F)).record (.raised (.shortFrame len))) := by
  simp only [receive, h, raise_shortFrame]

section
variable {s : State} {tear : Tear} {es : List Event} {F : List Byte} {rest : List (List Byte)}

theorem step_rx (hsched : s.sched = .rx tear :: es) (hconn : s.conn = true) (hrx : s.rx = F :: rest) :
    step s = receive F (s.reading tear es rest) := by
  have hocc : eventOccurs s (.rx tear) = true := by simp [eventOccurs, hconn, hrx]
  rw [step_of_occurs hsched hocc, perform_rx_of_cons tear (s := { s with sched := es }) hrx]
  rfl

theorem step_command {i : Instr} (hsched : s.sched = .rx tear :: es) (hconn : s.conn = true) (hrx : s.rx = F :: rest)
    (hdec : decode s.cfg F = .ok i) : step s = exec i ((s.reading tear es rest).record (.frameIn F)) :=
  (step_rx hsched hconn hrx).trans (receive_command hdec)

theorem step_shortFrame {len : Nat} (hsched : s.sched = .rx tear :: es) (hconn : s.conn = true)
    (hrx : s.rx = F :: rest) (hdec : decode s.cfg F = .error (.shortFrame len)) :
    step s = .next (((s.reading tear es rest).record (.frameIn F)).record (.raised (.shortFrame len))) :=
  (step_rx hsched hconn hrx).trans (receive_shortFrame hdec)

end

/-- Settles O40: the state before the command is that of `step_command`. -/
theorem stepRunsTheDecodedCommand : Obligations.StepRunsTheDecodedCommand :=
  fun _ _ _ _ _ _ hsched hconn hrx hdec => step_command hsched hconn hrx hdec

theorem record_record_eq (s : State) (d d' : Diag) : (s.record d).record d' = { s with diag := s.diag ++ [d, d'] } := by
  simp [State.record]

/-- Settles O20: the decoder rejects exactly the short frames, and a rejected frame leaves its two diagnostics. -/
theorem shortFrameIsDropped : Obligations.ShortFrameIsDropped := by
  intro c F hids
  refine ⟨⟨fun ⟨_, hdec⟩ => (isShort_of_decode_error hdec).1, fun hshort => ⟨_, decode_of_isShort hids hshort⟩⟩,
    fun len hdec => ?_, fun len s t es rest hcfg hdec hsched hconn hrx => ?_⟩
  · obtain ⟨_, rfl⟩ := isShort_of_decode_error hdec
    refine ⟨rfl, fun s hcfg => ?_⟩
    rw [receive_shortFrame (hcfg ▸ hdec), record_record_eq]
  · obtain ⟨_, rfl⟩ := isShort_of_decode_error hdec
    rw [step_shortFrame hsched hconn hrx (hcfg ▸ hdec), record_record_eq]
    rfl

/-! ## The ticks -/

theorem step_tickSeq {s : State} {es : List Event} (hsched : s.sched = .tickSeq :: es) (hconn : s.conn = true) :
    step s = .next { s.ending es with seq := s.seq + 1 } :=
  (step_of_occurs hsched hconn).trans (congrArg Host.Outcome.next (tickSeq_connected hconn))

section
variable {s : State} {tear : Tear} {es : List Event}

theorem step_tickRpt_enabled (hsched : s.sched = .tickRpt tear :: es) (hconn : s.conn = true) (hrpt : s.rptEn = true) :
    step s = .next { s.reading tear es s.rx with
      tx := s.tx ++ [[0x30, s.seq] ++ snapshot s.cfg (s.reading tear es s.rx).sampled ++ zeros 51] } := by
  have htick : tickRpt (s.reading tear es s.rx) = send ridInput s.seq
      (snapshot s.cfg (s.reading tear es s.rx).sampled) (s.reading tear es s.rx) :=
    if_pos (by simp [State.reading, hconn, hrpt])
  exact (step_of_occurs hsched hconn).trans (congrArg Host.Outcome.next (htick.trans (send_snapshot _)))

theorem step_tickRpt_disabled (hsched : s.sched = .tickRpt tear :: es) (hconn : s.conn = true)
    (hrpt : s.rptEn = false) : step s = .next (s.reading tear es s.rx) := by
  have htick : tickRpt (s.reading tear es s.rx) = s.reading tear es s.rx := if_neg (by simp [State.reading, hrpt])
  exact (step_of_occurs hsched hconn).trans (congrArg Host.Outcome.next htick)

end

/-- Settles O44: while connected the timer's event samples the bank, and it sends where RPT_EN is 1. -/
theorem tickRptTransmitsWhenEnabled : Obligations.TickRptTransmitsWhenEnabled :=
  fun _ _ _ hsched => ⟨fun hconn hrpt => ⟨_, rfl, step_tickRpt_enabled hsched hconn hrpt⟩,
    fun hconn hrpt => ⟨_, step_tickRpt_disabled hsched hconn hrpt⟩, fun hconn => step_of_not_occurs hsched hconn⟩

/-! ## The lifecycle -/

theorem connect_connected {openOk : Bool} {s : State} (h : s.conn = true) :
    connect openOk s = s.answerOwner .alreadyConnected := by
  simp [connect, h]

theorem connect_failed {s : State} (h : s.conn = false) : connect false s = s.answerOwner .deviceOpenFailed := by
  simp [connect, h]

theorem connect_ok {s : State} (h : s.conn = false) :
    connect true s = { s with seq := 0, rptEn := false, conn := true }.answerOwner .ok := by
  simp [connect, h]

theorem close_connected {s : State} (h : s.conn = true) : close s = { s with rptEn := false, conn := false } := by
  simp [close, h]

theorem close_notConnected {s : State} (h : s.conn = false) : close s = raiseNotConnected s := by
  simp [close, h]

theorem step_connect {s : State} {openOk : Bool} {es : List Event} (hsched : s.sched = .connect openOk :: es) :
    step s = .next (connect openOk (s.ending es)) := step_of_occurs hsched rfl

theorem step_close {s : State} {es : List Event} (hsched : s.sched = .close :: es) :
    step s = .next (close (s.ending es)) := step_of_occurs hsched rfl

theorem step_inputWrite {s : State} {w : InputWrite} {es : List Event} (hsched : s.sched = .inputWrite w :: es) :
    step s = .next { s with sched := es, input := s.input.write w, runWrites := s.runWrites ++ [w] } :=
  step_of_occurs hsched rfl

/-- Settles O3: a CONNECT always occurs, and its three results are the three branches of R190 and R191. -/
theorem connectHasThreeResults : Obligations.ConnectHasThreeResults := by
  intro s openOk es hsched
  rw [step_connect hsched]
  refine ⟨fun hconn => ?_, fun hconn hfailed => ?_, fun hconn hok => ?_⟩
  · rw [connect_connected (s := s.ending es) hconn]
    rfl
  · rw [hfailed, connect_failed (s := s.ending es) hconn]
    rfl
  · rw [hok, connect_ok (s := s.ending es) hconn]
    rfl

/-- Settles O4: a CLOSE always occurs; while not connected it is NotConnected, in the configuration's reading. -/
theorem closeStopsAndKeepsSeq : Obligations.CloseStopsAndKeepsSeq := by
  intro s es hsched
  rw [step_close hsched]
  refine ⟨fun hconn => ?_, fun hconn hdiag => ?_, fun hconn howner => ?_⟩
  · rw [close_connected (s := s.ending es) hconn]
    rfl
  · rw [close_notConnected (s := s.ending es) hconn, raiseNotConnected_diagnosticOnly (s := s.ending es) hdiag]
    rfl
  · rw [close_notConnected (s := s.ending es) hconn, raiseNotConnected_toOwner (s := s.ending es) howner]
    rfl

/-- Settles O1: creation and CONNECT write the elements they name. -/
theorem creationAndConnectReset : Obligations.CreationAndConnectReset := by
  refine ⟨fun c input seq hwf => ⟨State.creation c input seq, if_pos hwf, rfl, rfl, rfl, rfl, rfl, rfl, rfl, rfl⟩,
    ⟨rfl, rfl, rfl⟩, fun s hconn => ?_⟩
  rw [connect_ok hconn]
  exact ⟨rfl, rfl⟩

/-- Settles O2: a configuration is refused where `Config.wf` is false, and `Config.wf` tests the listed constraints. -/
theorem createRefusesBadConfiguration : Obligations.CreateRefusesBadConfiguration := by
  intro c input seq
  have hwf : c.wf = true ↔ (c.ridFullOut ≠ 0x80 ∧ c.ridFullOut ∉ c.ridIgnored ∧ c.calBankB ≠ 0x60 ∧
      16 ≤ c.calA.length ∧ c.calA.length ≤ 256 ∧ c.calB.length ≤ 256 ∧ 1 ≤ c.dpadW ∧ 16 ≤ c.rxMax) := by
    simp [Config.wf, Config.idsOk, ridUsbCmd, calBankA, and_assoc]
  rw [← hwf, create]
  split
  next h => simp [h]
  next h => simp [h]

/-! ## The cases of a step that answered -/

/-- The next state of a step, one case per event and outcome. -/
inductive StepCase (s : State) : State → Prop where
  | nothingOffered (hsched : s.sched = []) : StepCase s s
  | passedOver {e : Event} {es : List Event} (hsched : s.sched = e :: es) (hocc : eventOccurs s e = false) :
      StepCase s { s with sched := es }
  | command {tear : Tear} {es : List Event} {F : List Byte} {rest : List (List Byte)} {i : Instr} {e : Effect}
      (hsched : s.sched = .rx tear :: es) (hconn : s.conn = true) (hrx : s.rx = F :: rest)
      (hdec : decode s.cfg F = .ok i) (hof : e.Of s.cfg i) :
      StepCase s (((s.reading tear es rest).record (.frameIn F)).apply e)
  | shortFrame {tear : Tear} {es : List Event} {F : List Byte} {rest : List (List Byte)} {len : Nat}
      (hsched : s.sched = .rx tear :: es) (hconn : s.conn = true) (hrx : s.rx = F :: rest)
      (hdec : decode s.cfg F = .error (.shortFrame len)) :
      StepCase s (((s.reading tear es rest).record (.frameIn F)).record (.raised (.shortFrame len)))
  | tickSeq {es : List Event} (hsched : s.sched = .tickSeq :: es) (hconn : s.conn = true) :
      StepCase s { s.ending es with seq := s.seq + 1 }
  | report {tear : Tear} {es : List Event} (hsched : s.sched = .tickRpt tear :: es) (hconn : s.conn = true)
      (hrpt : s.rptEn = true) :
      StepCase s { s.reading tear es s.rx with
        tx := s.tx ++ [[0x30, s.seq] ++ snapshot s.cfg (s.reading tear es s.rx).sampled ++ zeros 51] }
  | reportDisabled {tear : Tear} {es : List Event} (hsched : s.sched = .tickRpt tear :: es) (hconn : s.conn = true)
      (hrpt : s.rptEn = false) : StepCase s (s.reading tear es s.rx)
  | connectRefused {openOk : Bool} {es : List Event} (result : OwnerResult) (hsched : s.sched = .connect openOk :: es) :
      StepCase s ((s.ending es).answerOwner result)
  | connected {es : List Event} (hsched : s.sched = .connect true :: es) (hconn : s.conn = false) :
      StepCase s ({ s.ending es with seq := 0, rptEn := false, conn := true }.answerOwner .ok)
  | closed {es : List Event} (hsched : s.sched = .close :: es) (hconn : s.conn = true) :
      StepCase s { s.ending es with rptEn := false, conn := false }
  | closeRefused {es : List Event} (diag : List Diag) (owner : List OwnerResult) (hsched : s.sched = .close :: es)
      (hconn : s.conn = false) : StepCase s { s.ending es with diag := diag, owner := owner }
  | inputWrite {w : InputWrite} {es : List Event} (hsched : s.sched = .inputWrite w :: es) :
      StepCase s { s with sched := es, input := s.input.write w, runWrites := s.runWrites ++ [w] }

/-- The step on an event that occurs falls under the case of that event. -/
theorem step_cases_of_occurs {s : State} {e : Event} {es : List Event} (hsched : s.sched = e :: es)
    (hocc : eventOccurs s e = true) : ∃ t, step s = .next t ∧ StepCase s t := by
  cases e with
  | rx tear =>
    have hready : s.conn = true ∧ s.rx ≠ [] := by simpa [eventOccurs] using hocc
    obtain ⟨hconn, hne⟩ := hready
    obtain ⟨F, rest, hrx⟩ := List.exists_cons_of_ne_nil hne
    cases hdec : decode s.cfg F with
    | ok i =>
      obtain ⟨e, hof, hruns⟩ := exec_effect ((s.reading tear es rest).record (.frameIn F)) i
      exact ⟨_, (step_command hsched hconn hrx hdec).trans (hruns _ (.refl _)), .command hsched hconn hrx hdec hof⟩
    | error why =>
      obtain ⟨len⟩ := why
      exact ⟨_, step_shortFrame hsched hconn hrx hdec, .shortFrame hsched hconn hrx hdec⟩
  | tickSeq => exact ⟨_, step_tickSeq hsched hocc, .tickSeq hsched hocc⟩
  | tickRpt tear =>
    cases hrpt : s.rptEn with
    | true => exact ⟨_, step_tickRpt_enabled hsched hocc hrpt, .report hsched hocc hrpt⟩
    | false => exact ⟨_, step_tickRpt_disabled hsched hocc hrpt, .reportDisabled hsched hocc hrpt⟩
  | connect openOk =>
    refine ⟨_, step_connect hsched, ?_⟩
    cases hconn : s.conn with
    | true => exact connect_connected (s := s.ending es) hconn ▸ .connectRefused _ hsched
    | false =>
      cases openOk with
      | false => exact connect_failed (s := s.ending es) hconn ▸ .connectRefused _ hsched
      | true => exact connect_ok (s := s.ending es) hconn ▸ .connected hsched hconn
  | close =>
    refine ⟨_, step_close hsched, ?_⟩
    cases hconn : s.conn with
    | true => exact close_connected (s := s.ending es) hconn ▸ .closed hsched hconn
    | false =>
      obtain ⟨owner, hraise⟩ := raiseNotConnected_records (s.ending es)
      rw [close_notConnected (s := s.ending es) hconn, hraise]
      exact .closeRefused _ owner hsched hconn
  | inputWrite w => exact ⟨_, step_inputWrite hsched, .inputWrite hsched⟩

/-- Every state steps, and the next state is that of one of the cases. -/
theorem exists_step_case (s : State) : ∃ t, step s = .next t ∧ StepCase s t := by
  cases hsched : s.sched with
  | nil => exact ⟨s, by simp only [step, hsched], .nothingOffered hsched⟩
  | cons e es =>
    cases hocc : eventOccurs s e with
    | true => exact step_cases_of_occurs hsched hocc
    | false => exact ⟨_, step_of_not_occurs hsched hocc, .passedOver hsched hocc⟩

theorem step_cases {s t : State} (h : step s = .next t) : StepCase s t := by
  obtain ⟨u, hu, hcase⟩ := exists_step_case s
  obtain rfl : u = t := Host.Outcome.next.inj (hu.symm.trans h)
  exact hcase

/-- Settles O47: a step falls under one of the cases, each of which has a next state. -/
theorem everyStepCompletes : Obligations.EveryStepCompletes := fun s =>
  let ⟨t, hstep, _⟩ := exists_step_case s
  ⟨t, hstep⟩

theorem step_nothingOffered {s : State} (h : s.sched = []) : step s = .next s := by
  simp only [step, h]

/-- Settles O42: the parser's turn does not occur while no frame waits. -/
theorem nothingOfferedNothingChanges : Obligations.NothingOfferedNothingChanges := fun s =>
  ⟨step_nothingOffered, fun t es hsched hrx =>
    step_of_not_occurs hsched (show (s.conn && !s.rx.isEmpty) = false by simp [hrx])⟩

end Sys2Proof.Machine
end

section
/-! PROOFS. What every step keeps and changes, each element read off the cases of a step: the trace, the InputState, the
control elements, the modes, and the invariants. -/

namespace Sys2Proof.Machine

/-! ## The schedule and the trace -/

/-- A step takes the next event from the schedule, and writes nothing else there. -/
theorem step_sched {s t : State} (h : step s = .next t) : t.sched = s.sched.tail := by
  cases step_cases h with
  | nothingOffered hsched => rw [hsched]; rfl
  | passedOver hsched | command hsched | shortFrame hsched | tickSeq hsched | report hsched | reportDisabled hsched
  | connectRefused _ hsched | connected hsched | closed hsched | closeRefused _ _ hsched | inputWrite hsched =>
    rw [hsched]; rfl

/-- A step transmits nothing, or, while connected, one frame in an outbound format (R28, R65). -/
theorem step_tx {s t : State} (h : step s = .next t) :
    t.tx = s.tx ∨ s.conn = true ∧ ∃ f, t.tx = s.tx ++ [f] ∧ isOutbound s.cfg f = true := by
  cases step_cases h with
  | command _ hconn _ _ hof => exact (hof.tx_cases _).imp_right (⟨hconn, ·⟩)
  | report _ hconn => exact .inr ⟨hconn, _, rfl, isOutbound_report _ _ _⟩
  | _ => exact .inl rfl

/-- Settles O48: a frame in an outbound format has 64 bytes. -/
theorem atMostOneFramePerEvent : Obligations.AtMostOneFramePerEvent :=
  fun _ _ hstep => atMostOneFrame_of_outbound ((step_tx hstep).imp_right And.right)

/-- Settles O41: the events that transmit or consume need CONN = 1, and without it the three events do not occur. -/
theorem disconnectedIsSilent : Obligations.DisconnectedIsSilent := by
  intro s t hconn hstep
  refine ⟨(step_tx hstep).resolve_right (by simp [hconn]), ?_, fun tear es hsched => ?_⟩
  · cases step_cases hstep with
    | command _ hconn' | shortFrame _ hconn' => simp [hconn] at hconn'
    | _ => rfl
  · have passed {e : Event} (he : s.sched = e :: es) (hocc : eventOccurs s e = false) : t = { s with sched := es } :=
      Host.Outcome.next.inj (hstep.symm.trans (step_of_not_occurs he hocc))
    rcases hsched with he | he | he
    · exact passed he (by simp [eventOccurs, hconn])
    · exact passed he hconn
    · exact passed he hconn

/-! ## The InputState -/

/-- Settles O49: INPUT_WRITE is the one case that writes the bank. -/
theorem onlyInputWritesChangeTheInput : Obligations.OnlyInputWritesChangeTheInput := by
  intro s t hstep hno
  cases step_cases hstep with
  | inputWrite hsched => exact absurd hsched (hno _ _)
  | _ => rfl

/-! ## The control elements -/

theorem head?_of_cons {s : State} {e : Event} {es : List Event} (h : s.sched = e :: es) : s.sched.head? = some e := by
  rw [h]; rfl

theorem step_conn {s t : State} (h : step s = .next t) (hne : t.conn ≠ s.conn) :
    s.sched.head? = some (.connect true) ∨ s.sched.head? = some .close := by
  cases step_cases h with
  | connected hsched => exact .inl (head?_of_cons hsched)
  | closed hsched => exact .inr (head?_of_cons hsched)
  | _ => exact absurd rfl hne

theorem step_seq {s t : State} (h : step s = .next t) (hne : t.seq ≠ s.seq) :
    s.sched.head? = some (.connect true) ∨ s.sched.head? = some .tickSeq := by
  cases step_cases h with
  | connected hsched => exact .inl (head?_of_cons hsched)
  | tickSeq hsched => exact .inr (head?_of_cons hsched)
  | _ => exact absurd rfl hne

/-- The frame at the head of the transport is taken next and decodes to `i`. -/
def State.Receives (s : State) (i : Instr) : Prop :=
  ∃ tear F rest, s.sched.head? = some (.rx tear) ∧ s.rx = F :: rest ∧ decode s.cfg F = .ok i

theorem State.apply_rptEn (s : State) (e : Effect) : (s.apply e).rptEn = e.rptEn.getD s.rptEn := rfl

/-- The commands that write RPT_EN are the two that name it (R134, R135). -/
theorem eq_of_rptEnWrite {i : Instr} {on : Bool} (h : rptEnWrite i = some on) :
    i = .hsRptOn ∧ on = true ∨ i = .hsRptOff ∧ on = false := by
  unfold rptEnWrite at h
  split at h
  · exact .inl ⟨rfl, (Option.some.inj h).symm⟩
  · exact .inr ⟨rfl, (Option.some.inj h).symm⟩
  · cases h

/-- What a step does to RPT_EN: nothing, or what the two commands and the lifecycle write. -/
theorem step_rptEn {s t : State} (h : step s = .next t) :
    t.rptEn = s.rptEn ∨ s.conn = true ∧ t.rptEn = true ∧ s.Receives .hsRptOn ∨
      s.conn = true ∧ t.rptEn = false ∧ s.Receives .hsRptOff ∨
      t.rptEn = false ∧ (s.sched.head? = some (.connect true) ∨ s.sched.head? = some .close) := by
  cases step_cases h with
  | @command tear es F rest i e hsched hconn hrx hdec hof =>
    have htaken : s.Receives i := ⟨tear, F, rest, head?_of_cons hsched, hrx, hdec⟩
    rw [State.apply_rptEn, hof.rptEn]
    cases hwrite : rptEnWrite i with
    | none => exact .inl rfl
    | some on =>
      rcases eq_of_rptEnWrite hwrite with ⟨rfl, rfl⟩ | ⟨rfl, rfl⟩
      · exact .inr (.inl ⟨hconn, rfl, htaken⟩)
      · exact .inr (.inr (.inl ⟨hconn, rfl, htaken⟩))
  | connected hsched => exact .inr (.inr (.inr ⟨rfl, .inl (head?_of_cons hsched)⟩))
  | closed hsched => exact .inr (.inr (.inr ⟨rfl, .inr (head?_of_cons hsched)⟩))
  | _ => exact .inl rfl

/-- FAULT rises only by an over-long calibration read, which transmits nothing (R205). -/
theorem step_fault {s t : State} (h : step s = .next t) :
    t.fault = s.fault ∨ t.fault = true ∧ t.tx = s.tx ∧ ∃ i, s.Receives i ∧ IsOverlongRead i := by
  cases step_cases h with
  | @command tear es F rest i e hsched _ hrx hdec hof =>
    cases hover : e.overflow with
    | false => exact .inl (by simp [State.apply, State.reading, hover])
    | true =>
      obtain ⟨hnone, hlong⟩ := hof.overflow hover
      exact .inr ⟨by simp [State.apply, hover], by simp [State.apply, State.reading, hnone],
        i, ⟨tear, F, rest, head?_of_cons hsched, hrx, hdec⟩, hlong⟩
  | _ => exact .inl rfl

/-- Settles O50: the writers of each element are those of `step_conn`, `step_seq`, `step_rptEn` and `step_fault`. -/
theorem controlElementsHaveTheirWriters : Obligations.ControlElementsHaveTheirWriters := by
  refine fun s t hstep => ⟨step_conn hstep, step_seq hstep, fun hne => ?_, fun hne => ?_⟩
  · rcases step_rptEn hstep with hsame | ⟨_, _, tear, F, rest, hhead, hrx, hdec⟩ |
      ⟨_, _, tear, F, rest, hhead, hrx, hdec⟩ | ⟨_, hconnect | hclose⟩
    · exact absurd hsame hne
    · exact .inr (.inr ⟨tear, F, rest, hhead, hrx, .inl hdec⟩)
    · exact .inr (.inr ⟨tear, F, rest, hhead, hrx, .inr hdec⟩)
    · exact .inl hconnect
    · exact .inr (.inl hclose)
  · obtain ⟨hset, htx, _, ⟨tear, F, rest, hhead, hrx, hdec⟩, off, bank, hdr13, hdr14, n, rfl, hlong⟩ :=
      (step_fault hstep).resolve_left hne
    exact ⟨tear, F, rest, off, bank, hdr13, hdr14, n, hhead, hrx, hdec, hlong, hset, htx⟩

/-! ## The modes -/

theorem mode_eq_disconnected_iff (s : State) : s.mode = some .disconnected ↔ s.conn = false ∧ s.rptEn = false := by
  unfold State.mode
  split <;> simp_all

theorem mode_eq_idle_iff (s : State) : s.mode = some .idle ↔ s.conn = true ∧ s.rptEn = false := by
  unfold State.mode
  split <;> simp_all

theorem mode_eq_reporting_iff (s : State) : s.mode = some .reporting ↔ s.conn = true ∧ s.rptEn = true := by
  unfold State.mode
  split <;> simp_all

theorem mode_congr {s t : State} (hconn : t.conn = s.conn) (hrpt : t.rptEn = s.rptEn) : t.mode = s.mode := by
  rw [State.mode, State.mode, hconn, hrpt]

/-- The transitions between the modes, with what each needs (R23, R214). -/
theorem step_mode {s t : State} (h : step s = .next t) :
    t.mode = s.mode ∨ s.conn = false ∧ t.mode = some .idle ∧ s.sched.head? = some (.connect true) ∨
      s.conn = true ∧ t.mode = some .disconnected ∧ s.sched.head? = some .close ∨
      s.conn = true ∧ t.mode = some .reporting ∧ s.Receives .hsRptOn ∨
      s.conn = true ∧ t.mode = some .idle ∧ s.Receives .hsRptOff := by
  cases step_cases h with
  | connected hsched hconn => exact .inr (.inl ⟨hconn, rfl, head?_of_cons hsched⟩)
  | closed hsched hconn => exact .inr (.inr (.inl ⟨hconn, rfl, head?_of_cons hsched⟩))
  | @command tear es F rest i e hsched hconn hrx hdec hof =>
    have htaken : s.Receives i := ⟨tear, F, rest, head?_of_cons hsched, hrx, hdec⟩
    have hrpt := State.apply_rptEn ((s.reading tear es rest).record (.frameIn F)) e
    rw [hof.rptEn] at hrpt
    cases hwrite : rptEnWrite i with
    | none => exact .inl (mode_congr rfl (by rw [hrpt, hwrite]; rfl))
    | some on =>
      rw [hwrite] at hrpt
      rcases eq_of_rptEnWrite hwrite with ⟨rfl, rfl⟩ | ⟨rfl, rfl⟩
      · exact .inr (.inr (.inr (.inl ⟨hconn, (mode_eq_reporting_iff _).mpr ⟨hconn, hrpt⟩, htaken⟩)))
      · exact .inr (.inr (.inr (.inr ⟨hconn, (mode_eq_idle_iff _).mpr ⟨hconn, hrpt⟩, htaken⟩)))
  | _ => exact .inl rfl

/-- Settles O51: of the transitions of `step_mode`, those that start from the mode are the listed ones. -/
theorem modesChangeOnlyAsListed : Obligations.ModesChangeOnlyAsListed := by
  intro s t hstep
  refine ⟨fun hmode => ?_, fun hmode => ?_, fun hmode => ?_⟩
  · obtain ⟨hconn, _⟩ := (mode_eq_disconnected_iff s).mp hmode
    rcases step_mode hstep with hsame | ⟨_, hidle, hhead⟩ | ⟨hconn', _⟩ | ⟨hconn', _⟩ | ⟨hconn', _⟩
    · exact .inl (hsame.trans hmode)
    · exact .inr ⟨hidle, hhead⟩
    all_goals simp [hconn] at hconn'
  · obtain ⟨hconn, _⟩ := (mode_eq_idle_iff s).mp hmode
    rcases step_mode hstep with hsame | ⟨hconn', _⟩ | ⟨_, hdisc, hhead⟩ | ⟨_, hrep, hrec⟩ | ⟨_, hidle, _⟩
    · exact .inl (hsame.trans hmode)
    · simp [hconn] at hconn'
    · exact .inr (.inl ⟨hdisc, hhead⟩)
    · exact .inr (.inr ⟨hrep, hrec⟩)
    · exact .inl hidle
  · obtain ⟨hconn, _⟩ := (mode_eq_reporting_iff s).mp hmode
    rcases step_mode hstep with hsame | ⟨hconn', _⟩ | ⟨_, hdisc, hhead⟩ | ⟨_, hrep, _⟩ | ⟨_, hidle, hrec⟩
    · exact .inl (hsame.trans hmode)
    · simp [hconn] at hconn'
    · exact .inr (.inl ⟨hdisc, hhead⟩)
    · exact .inl hrep
    · exact .inr (.inr ⟨hidle, hrec⟩)

/-! ## The invariant -/

theorem step_keeps_cfg {s t : State} (h : step s = .next t) : t.cfg = s.cfg := by
  obtain ⟨u, hu, hcfg⟩ := step_cfg s
  obtain rfl : u = t := Host.Outcome.next.inj (hu.symm.trans h)
  exact hcfg

theorem step_keeps_mode {s t : State} (h : step s = .next t) (hmode : s.mode ≠ none) : t.mode ≠ none := by
  rcases step_mode h with hto | ⟨_, hto, _⟩ | ⟨_, hto, _⟩ | ⟨_, hto, _⟩ | ⟨_, hto, _⟩ <;> rw [hto]
  · exact hmode
  all_goals exact Option.some_ne_none _

theorem step_keeps_formats {s t : State} (h : step s = .next t) (hframes : ∀ f ∈ s.tx, isOutbound s.cfg f = true) :
    ∀ f ∈ t.tx, isOutbound t.cfg f = true := by
  rw [step_keeps_cfg h]
  rcases step_tx h with htx | ⟨_, g, htx, hout⟩ <;> rw [htx]
  · exact hframes
  · intro f hf
    rcases List.mem_append.mp hf with hold | hnew
    · exact hframes f hold
    · exact List.mem_singleton.mp hnew ▸ hout

/-- A run of writes grows by an INPUT_WRITE and starts again at the bank after every other event (R50). -/
theorem step_keeps_history {s t : State} (h : step s = .next t) (hhist : s.runStart.writeAll s.runWrites = s.input) :
    t.runStart.writeAll t.runWrites = t.input := by
  cases step_cases h with
  | nothingOffered | passedOver => exact hhist
  | inputWrite => exact (writeAll_append_one _ _ _).trans (by rw [hhist])
  | _ => rfl

/-- Settles O53: each clause of the invariant is kept by itself. -/
theorem stepKeepsTheInvariant : Obligations.StepKeepsTheInvariant :=
  fun _ _ hinv hstep => ⟨step_keeps_cfg hstep ▸ hinv.cfgWf, step_keeps_mode hstep hinv.mode,
    step_keeps_formats hstep hinv.frames, step_keeps_history hstep hinv.history⟩

/-! ## The width of the pad counts -/

theorem padsFit_iff (w : Nat) (i : InputState) :
    i.padsFit w = true ↔
      i.dpad.up < 2 ^ w ∧ i.dpad.down < 2 ^ w ∧ i.dpad.left < 2 ^ w ∧ i.dpad.right < 2 ^ w := by
  simp [InputState.padsFit, and_assoc]

theorem padsFit_congr {i j : InputState} (h : i.dpad = j.dpad) (w : Nat) : i.padsFit w = j.padsFit w := by
  rw [InputState.padsFit, InputState.padsFit, h]

theorem padsFit_write {w : Nat} {i : InputState} {x : InputWrite} (hi : i.padsFit w = true) (hx : x.fits w = true) :
    (i.write x).padsFit w = true := by
  cases x with
  | dpad d v =>
    have hv : v < 2 ^ w := by simpa [InputWrite.fits] using hx
    rw [padsFit_iff] at hi ⊢
    obtain ⟨hup, hdown, hleft, hright⟩ := hi
    cases d with
    | up => exact ⟨hv, hdown, hleft, hright⟩
    | down => exact ⟨hup, hv, hleft, hright⟩
    | left => exact ⟨hup, hdown, hv, hright⟩
    | right => exact ⟨hup, hdown, hleft, hv⟩
  | button which v => exact hi
  | stickX side v | stickY side v | stickPress side v => exact (padsFit_congr (modifyStick_dpad i side _) w).trans hi

theorem padsFit_writeAll {w : Nat} {ws : List InputWrite} {i : InputState} (hi : i.padsFit w = true)
    (hws : ∀ x ∈ ws, x.fits w = true) : (i.writeAll ws).padsFit w = true := by
  induction ws generalizing i with
  | nil => exact hi
  | cons x ws ih =>
    exact ih (padsFit_write hi (hws x List.mem_cons_self)) fun y hy => hws y (List.mem_cons_of_mem x hy)

/-- Every view of a torn read is a bank after some of the writes, so its counts fit (R50). -/
theorem padsFit_fieldView {w : Nat} {base cur : InputState} {ws : List InputWrite} (t : Tear) (f : InputField)
    (hbase : base.padsFit w = true) (hcur : cur.padsFit w = true) (hws : ∀ x ∈ ws, x.fits w = true) :
    (fieldView t base ws cur f).padsFit w = true := by
  unfold fieldView
  split
  · exact hcur
  · exact padsFit_writeAll hbase fun x hx => hws x (List.mem_filter.mp (List.mem_of_mem_take hx)).1

theorem padsFit_sampleInput {w : Nat} {base cur : InputState} {ws : List InputWrite} (t : Tear)
    (hbase : base.padsFit w = true) (hcur : cur.padsFit w = true) (hws : ∀ x ∈ ws, x.fits w = true) :
    (sampleInput t base ws cur).padsFit w = true := by
  have view (f : InputField) := (padsFit_iff w _).mp (padsFit_fieldView t f hbase hcur hws)
  rw [padsFit_iff]
  obtain ⟨hup, _, _, _⟩ := view (.dpad .up)
  obtain ⟨_, hdown, _, _⟩ := view (.dpad .down)
  obtain ⟨_, _, hleft, _⟩ := view (.dpad .left)
  obtain ⟨_, _, _, hright⟩ := view (.dpad .right)
  exact ⟨hup, hdown, hleft, hright⟩

/-- The writes next to an event are among the offered ones. -/
theorem mem_of_mem_writesNext {rxEmpty : Bool} {es : List Event} {w : InputWrite} (h : w ∈ writesNext rxEmpty es) :
    Event.inputWrite w ∈ es := by
  induction es with
  | nil => simp at h
  | cons e es ih =>
    cases e with
    | inputWrite x =>
      rcases List.mem_cons.mp h with rfl | h
      · exact List.mem_cons_self
      · exact List.mem_cons_of_mem _ (ih h)
    | rx tear =>
      cases rxEmpty with
      | true => exact List.mem_cons_of_mem _ (ih h)
      | false => simp [writesNext] at h
    | tickSeq | tickRpt | connect | close => simp [writesNext] at h

theorem inputSourceKeepsType_iff (s : State) :
    s.inputSourceKeepsType = true ↔ ∀ w, Event.inputWrite w ∈ s.sched → w.fits s.cfg.dpadW = true := by
  rw [State.inputSourceKeepsType, List.all_eq_true]
  refine ⟨fun h w hw => h _ hw, fun h e he => ?_⟩
  cases e with
  | inputWrite w => exact h w he
  | rx | tickSeq | tickRpt | connect | close => rfl

/-- The statement speaks of six elements only. -/
theorem PadsFit.congr {s t : State} (h : PadsFit s) (hcfg : t.cfg = s.cfg) (hsched : t.sched = s.sched)
    (hwrites : t.runWrites = s.runWrites) (hinput : t.input = s.input) (hstart : t.runStart = s.runStart)
    (hsampled : t.sampled = s.sampled) : PadsFit t := by
  refine ⟨?_, ?_, ?_, ?_, ?_⟩
  · rw [inputSourceKeepsType_iff, hcfg, hsched]
    exact (inputSourceKeepsType_iff s).mp h.offered
  · rw [hcfg, hwrites]; exact h.written
  · rw [hcfg, hinput]; exact h.input
  · rw [hcfg, hstart]; exact h.start
  · rw [hcfg, hsampled]; exact h.sampled

section
variable {s : State} {e : Event} {es : List Event}

theorem PadsFit.offered_of_cons (h : PadsFit s) (hsched : s.sched = e :: es) {w : InputWrite}
    (hw : Event.inputWrite w ∈ e :: es) : w.fits s.cfg.dpadW = true :=
  (inputSourceKeepsType_iff s).mp h.offered w (hsched ▸ hw)

theorem PadsFit.passedOver (h : PadsFit s) (hsched : s.sched = e :: es) : PadsFit { s with sched := es } where
  offered := (inputSourceKeepsType_iff _).mpr fun _ hw => h.offered_of_cons hsched (List.mem_cons_of_mem _ hw)
  written := h.written
  input := h.input
  start := h.start
  sampled := h.sampled

theorem PadsFit.ending (h : PadsFit s) (hsched : s.sched = e :: es) : PadsFit (s.ending es) where
  offered := (h.passedOver hsched).offered
  written := nofun
  input := h.input
  start := h.input
  sampled := h.sampled

theorem PadsFit.reading (h : PadsFit s) (hsched : s.sched = e :: es) (tear : Tear) (rx : List (List Byte)) :
    PadsFit (s.reading tear es rx) where
  offered := (h.passedOver hsched).offered
  written := nofun
  input := h.input
  start := h.input
  sampled := padsFit_sampleInput tear h.start h.input fun x hx => by
    rcases List.mem_append.mp hx with hpast | hnext
    · exact h.written x hpast
    · exact h.offered_of_cons hsched (List.mem_cons_of_mem _ (mem_of_mem_writesNext hnext))

theorem PadsFit.inputWrite {w : InputWrite} (h : PadsFit s) (hsched : s.sched = .inputWrite w :: es) :
    PadsFit { s with sched := es, input := s.input.write w, runWrites := s.runWrites ++ [w] } where
  offered := (h.passedOver hsched).offered
  written := fun x hx => by
    rcases List.mem_append.mp hx with hpast | hnew
    · exact h.written x hpast
    · obtain rfl := List.mem_singleton.mp hnew
      exact h.offered_of_cons hsched List.mem_cons_self
  input := padsFit_write h.input (h.offered_of_cons hsched List.mem_cons_self)
  start := h.start
  sampled := h.sampled

end

/-- Settles O54: a bank is sampled or written from banks and writes whose counts fit. -/
theorem padCountsKeepTheirWidth : Obligations.PadCountsKeepTheirWidth := by
  intro s t h hstep
  cases step_cases hstep with
  | nothingOffered => exact h
  | passedOver hsched => exact h.passedOver hsched
  | command hsched | shortFrame hsched | report hsched | reportDisabled hsched =>
    exact (h.reading hsched _ _).congr rfl rfl rfl rfl rfl rfl
  | tickSeq hsched | connectRefused _ hsched | connected hsched | closed hsched | closeRefused _ _ hsched =>
    exact (h.ending hsched).congr rfl rfl rfl rfl rfl rfl
  | inputWrite hsched => exact h.inputWrite hsched

/-! ## The state after reset -/

theorem configured_wf : Config.configured.wf = true := by
  have hids : Config.configured.idsOk = true := by decide
  have hbank : (Config.configured.calBankB != calBankA) = true := by decide
  have hA : Config.configured.calA.length = 16 + min 240 Config.openCalATail.length := by simp [Config.configured]
  have hB : Config.configured.calB.length = min 256 Config.openCalB.length := by simp [Config.configured]
  have hpad : Config.configured.dpadW = Config.openDpadExtra + 1 := rfl
  have hrx : Config.configured.rxMax = Config.openRxExtra + 16 := rfl
  simp only [Config.wf, hids, hbank, hA, hB, hpad, hrx, Bool.true_and, Bool.and_eq_true, decide_eq_true_eq]
  omega

theorem padsFit_inputAtCreation : inputAtCreation.padsFit Config.configured.dpadW = true := by
  have hmod (n : Nat) : n % 2 ^ Config.configured.dpadW < 2 ^ Config.configured.dpadW :=
    Nat.mod_lt _ (Nat.two_pow_pos _)
  exact (padsFit_iff _ _).mpr ⟨hmod _, hmod _, hmod _, hmod _⟩

/-- Settles O52: creation starts in mode DISCONNECTED with no frame, no write and one bank. -/
theorem resetMeetsTheInvariant : Obligations.ResetMeetsTheInvariant :=
  ⟨⟨configured_wf, nofun, nofun, rfl⟩,
    ⟨rfl, nofun, padsFit_inputAtCreation, padsFit_inputAtCreation, padsFit_inputAtCreation⟩⟩

end Sys2Proof.Machine
end

section
/-! PROOFS. The reads of the InputState (R31, R50): each field of a torn read, the tear that makes given choices, and
the read with no adjacent write. -/

namespace Sys2Proof.Machine

/-! ## One field of a torn read -/

theorem get_sampleInput_of_unlisted {t : Tear} {f : InputField} (h : t.lookup f = none) (base cur : InputState)
    (ws : List InputWrite) : (sampleInput t base ws cur).get f = cur.get f := by
  rw [sampleInput_get, fieldView, h]

theorem get_sampleInput_of_listed {t : Tear} {f : InputField} {k : Nat} (h : t.lookup f = some k)
    (base cur : InputState) (ws : List InputWrite) :
    (sampleInput t base ws cur).get f = (base.writeAll ((ws.filter (fun w => w.field == f)).take k)).get f := by
  rw [sampleInput_get, fieldView, h]

/-! ## The tear of given choices -/

/-- The 22 fields (R15). -/
def allFields : List InputField :=
  [.dpad .up, .dpad .down, .dpad .left, .dpad .right, .button .a, .button .b, .button .x, .button .y, .button .l,
   .button .r, .button .zl, .button .zr, .button .home, .button .capture, .button .plus, .button .minus,
   .stickX .left, .stickX .right, .stickY .left, .stickY .right, .stickPress .left, .stickPress .right]

theorem mem_allFields (f : InputField) : f ∈ allFields := by
  rcases f with (_ | _ | _ | _) | (_ | _ | _ | _ | _ | _ | _ | _ | _ | _ | _ | _) | (_ | _) | (_ | _) | (_ | _) <;>
    decide

/-- The tear that lists, of the given fields, those for which a number of writes is chosen. -/
def tearOf (choice : InputField → Option Nat) (fields : List InputField) : Tear :=
  fields.filterMap fun f => (choice f).map (f, ·)

theorem lookup_tearOf {choice : InputField → Option Nat} {fields : List InputField} {f : InputField}
    (hf : f ∈ fields) : (tearOf choice fields).lookup f = choice f := by
  induction fields with
  | nil => cases hf
  | cons g fields ih =>
    by_cases hfg : f = g
    · subst hfg
      cases hchoice : choice f with
      | none =>
        by_cases hmem : f ∈ fields
        · simpa [tearOf, hchoice] using ih hmem
        · rw [List.lookup_eq_none_iff]
          intro p hp
          obtain ⟨g, hg, hp⟩ := List.mem_filterMap.mp hp
          obtain ⟨k, hk, rfl⟩ := Option.map_eq_some_iff.mp hp
          have hne : f ≠ g := fun e => by simp [← e, hchoice] at hk
          simpa using hne
      | some k => simp [tearOf, hchoice]
    · have hrest := ih ((List.mem_cons.mp hf).resolve_left hfg)
      have hne : (f == g) = false := by simpa using hfg
      cases hchoice : choice g with
      | none => simpa [tearOf, hchoice] using hrest
      | some k => simpa [tearOf, hchoice, List.lookup, hne] using hrest

/-- Settles O46: a field is read by what the tear lists for it, and a tear can list any choice (`lookup_tearOf`). -/
theorem tornReadShowsHeldValues : Obligations.TornReadShowsHeldValues := by
  refine ⟨fun t base cur ws f => ?_, fun choice => ⟨tearOf choice allFields, fun base cur ws f => ?_⟩⟩
  · cases hlook : t.lookup f with
    | none => exact .inl (get_sampleInput_of_unlisted hlook base cur ws)
    | some k => exact .inr ⟨k, get_sampleInput_of_listed hlook base cur ws⟩
  · have hlook : (tearOf choice allFields).lookup f = choice f := lookup_tearOf (mem_allFields f)
    cases hchoice : choice f with
    | none => exact get_sampleInput_of_unlisted (hlook.trans hchoice) base cur ws
    | some k => exact get_sampleInput_of_listed (hlook.trans hchoice) base cur ws

/-! ## No adjacent write -/

/-- With no adjacent write and the bank unchanged in the run, every tear reads the bank. -/
theorem sampleInput_no_writes (t : Tear) (i : InputState) : sampleInput t i [] i = i := by
  have view (f : InputField) : fieldView t i [] i f = i := by
    unfold fieldView
    split <;> simp
  simp only [sampleInput, view]

/-- Bit 3 of the group byte "left" is Button.A (R100). -/
theorem groupLeft_bit3 (i : InputState) : (groupLeft i).getLsbD 3 = i.button.a := by
  have hbits : bits (groupLeft i) =
      [i.button.y, i.button.x, i.button.b, i.button.a, false, false, i.button.r, i.button.zr] :=
    bits_four_and_two _ _ _ _ _ _
  exact Option.some.inj (congrArg (·[3]?) hbits)

/-- Settles O45: by the invariant the bank before the run is the InputState, so the sample is the InputState; frame byte
3 is the group byte "left". -/
theorem reportShowsTheInput : Obligations.ReportShowsTheInput := by
  intro s t es hinv hconn hrpt hsched hwrites hnext
  have hstart : s.runStart = s.input := by simpa [hwrites] using hinv.history
  have hsample : (s.reading t es s.rx).sampled = s.input := by
    rw [State.reading, hwrites, hnext, hstart]
    exact sampleInput_no_writes t s.input
  refine ⟨_, _, step_tickRpt_enabled hsched hconn hrpt, rfl, by rw [hsample], ?_⟩
  rw [hsample]
  exact groupLeft_bit3 s.input

end Sys2Proof.Machine
end

section
/-! PROOFS. Two states that differ only in the records and in the schedule: no command and no event tells them apart, as
long as the same writes stand next to it (R14, R32, R50). -/

namespace Sys2Proof.Machine

/-- `s'` is `s` but for the schedule, FAULT, the diagnostics and the owner's results. -/
def State.SameBlock (s s' : State) : Prop :=
  ∃ sched fault diag owner, s' = { s with sched := sched, fault := fault, diag := diag, owner := owner }

/-- With any waiting frames, the same writes stand next in both schedules (R50). -/
def SameWritesNext (es es' : List Event) : Prop := ∀ rxEmpty, writesNext rxEmpty es' = writesNext rxEmpty es

theorem withoutRecords_eq_iff (s s' : State) :
    s.withoutRecords = s'.withoutRecords ↔ s.SameBlock s' ∧ s'.sched = s.sched := by
  constructor
  · intro h
    have hs' : s' = { s'.withoutRecords with fault := s'.fault, diag := s'.diag, owner := s'.owner } := rfl
    rw [← h] at hs'
    exact ⟨⟨s.sched, s'.fault, s'.diag, s'.owner, hs'⟩, by rw [hs']; rfl⟩
  · rintro ⟨⟨sched, fault, diag, owner, rfl⟩, hsched⟩
    obtain rfl : sched = s.sched := hsched
    rfl

namespace State.SameBlock

section
variable {s s' : State}

theorem conn_eq (h : s.SameBlock s') : s'.conn = s.conn := by
  obtain ⟨_, _, _, _, rfl⟩ := h; rfl

theorem rptEn_eq (h : s.SameBlock s') : s'.rptEn = s.rptEn := by
  obtain ⟨_, _, _, _, rfl⟩ := h; rfl

theorem rx_eq (h : s.SameBlock s') : s'.rx = s.rx := by
  obtain ⟨_, _, _, _, rfl⟩ := h; rfl

theorem tx_eq (h : s.SameBlock s') : s'.tx = s.tx := by
  obtain ⟨_, _, _, _, rfl⟩ := h; rfl

theorem sameReads (h : s.SameBlock s') : s.SameReads s' := by
  obtain ⟨_, _, _, _, rfl⟩ := h; exact ⟨rfl, rfl, rfl⟩

theorem eventOccurs_eq (h : s.SameBlock s') (e : Event) : eventOccurs s' e = eventOccurs s e := by
  obtain ⟨_, _, _, _, rfl⟩ := h; cases e <;> rfl

theorem withSched (h : s.SameBlock s') (es es' : List Event) :
    { s with sched := es }.SameBlock { s' with sched := es' } := by
  obtain ⟨_, _, _, _, rfl⟩ := h; exact ⟨_, _, _, _, rfl⟩

theorem record (h : s.SameBlock s') (d d' : Diag) : (s.record d).SameBlock (s'.record d') := by
  obtain ⟨_, _, _, _, rfl⟩ := h; exact ⟨_, _, _, _, rfl⟩

theorem apply (h : s.SameBlock s') (e : Effect) : (s.apply e).SameBlock (s'.apply e) := by
  obtain ⟨_, _, _, _, rfl⟩ := h; exact ⟨_, _, _, _, rfl⟩

theorem ending (h : s.SameBlock s') (es es' : List Event) : (s.ending es).SameBlock (s'.ending es') := by
  obtain ⟨_, _, _, _, rfl⟩ := h; exact ⟨_, _, _, _, rfl⟩

/-- The sample depends on the schedule by the writes that stand next only. -/
theorem reading (h : s.SameBlock s') {es es' : List Event} (hnext : SameWritesNext es es') (tear : Tear)
    (rx : List (List Byte)) : (s.reading tear es rx).SameBlock (s'.reading tear es' rx) := by
  obtain ⟨_, _, _, _, rfl⟩ := h
  unfold State.reading
  rw [hnext]
  exact ⟨_, _, _, _, rfl⟩

theorem connect (h : s.SameBlock s') (openOk : Bool) : (connect openOk s).SameBlock (Machine.connect openOk s') := by
  cases hconn : s.conn with
  | true =>
    rw [connect_connected hconn, connect_connected (h.conn_eq.trans hconn)]
    obtain ⟨_, _, _, _, rfl⟩ := h; exact ⟨_, _, _, _, rfl⟩
  | false =>
    cases openOk with
    | false =>
      rw [connect_failed hconn, connect_failed (h.conn_eq.trans hconn)]
      obtain ⟨_, _, _, _, rfl⟩ := h; exact ⟨_, _, _, _, rfl⟩
    | true =>
      rw [connect_ok hconn, connect_ok (h.conn_eq.trans hconn)]
      obtain ⟨_, _, _, _, rfl⟩ := h; exact ⟨_, _, _, _, rfl⟩

theorem close (h : s.SameBlock s') : (close s).SameBlock (Machine.close s') := by
  cases hconn : s.conn with
  | true =>
    rw [close_connected hconn, close_connected (h.conn_eq.trans hconn)]
    obtain ⟨_, _, _, _, rfl⟩ := h; exact ⟨_, _, _, _, rfl⟩
  | false =>
    obtain ⟨_, hraise⟩ := raiseNotConnected_records s
    obtain ⟨_, hraise'⟩ := raiseNotConnected_records s'
    rw [close_notConnected hconn, close_notConnected (h.conn_eq.trans hconn), hraise, hraise']
    obtain ⟨_, _, _, _, rfl⟩ := h; exact ⟨_, _, _, _, rfl⟩

/-- The parser does the same with a frame in both states (`exec_effect`). -/
theorem receive (h : s.SameBlock s') (F : List Byte) :
    ∃ t t', receive F s = .next t ∧ Machine.receive F s' = .next t' ∧ t.SameBlock t' := by
  cases hdec : decode s.cfg F with
  | ok i =>
    obtain ⟨e, _, hruns⟩ := exec_effect (s.record (.frameIn F)) i
    refine ⟨_, _, (receive_command hdec).trans (hruns _ (.refl _)),
      (receive_command (h.sameReads.cfg ▸ hdec)).trans (hruns _ (h.record _ _).sameReads), (h.record _ _).apply e⟩
  | error why =>
    obtain ⟨len⟩ := why
    exact ⟨_, _, receive_shortFrame hdec, receive_shortFrame (h.sameReads.cfg ▸ hdec), (h.record _ _).record _ _⟩

/-- The same event, with the same writes next to it, does the same to both (R33). -/
theorem step_of_cons (h : s.SameBlock s') {e : Event} {es es' : List Event} (hsched : s.sched = e :: es)
    (hsched' : s'.sched = e :: es') (hnext : SameWritesNext es es') :
    ∃ t t', step s = .next t ∧ step s' = .next t' ∧ t.SameBlock t' := by
  cases hocc : eventOccurs s e with
  | false =>
    exact ⟨_, _, step_of_not_occurs hsched hocc, step_of_not_occurs hsched' ((h.eventOccurs_eq e).trans hocc),
      h.withSched es es'⟩
  | true =>
    cases e with
    | rx tear =>
      have hready : s.conn = true ∧ s.rx ≠ [] := by simpa [eventOccurs] using hocc
      obtain ⟨hconn, hne⟩ := hready
      obtain ⟨F, rest, hrx⟩ := List.exists_cons_of_ne_nil hne
      rw [step_rx hsched hconn hrx, step_rx hsched' (h.conn_eq.trans hconn) (h.rx_eq.trans hrx)]
      exact (h.reading hnext tear rest).receive F
    | tickSeq =>
      refine ⟨_, _, step_tickSeq hsched hocc, step_tickSeq hsched' (h.conn_eq.trans hocc), ?_⟩
      obtain ⟨_, _, _, _, rfl⟩ := h; exact ⟨_, _, _, _, rfl⟩
    | tickRpt tear =>
      have hreading := h.reading hnext tear s.rx
      cases hrpt : s.rptEn with
      | true =>
        refine ⟨_, _, step_tickRpt_enabled hsched hocc hrpt,
          step_tickRpt_enabled hsched' (h.conn_eq.trans hocc) (h.rptEn_eq.trans hrpt), ?_⟩
        rw [h.rx_eq, h.tx_eq, h.sameReads.seq, h.sameReads.cfg, hreading.sameReads.sampled]
        obtain ⟨_, _, _, _, hreading⟩ := hreading
        exact ⟨_, _, _, _, by rw [hreading]⟩
      | false =>
        refine ⟨_, _, step_tickRpt_disabled hsched hocc hrpt,
          step_tickRpt_disabled hsched' (h.conn_eq.trans hocc) (h.rptEn_eq.trans hrpt), ?_⟩
        rw [h.rx_eq]
        exact hreading
    | connect openOk => exact ⟨_, _, step_connect hsched, step_connect hsched', (h.ending es es').connect openOk⟩
    | close => exact ⟨_, _, step_close hsched, step_close hsched', (h.ending es es').close⟩
    | inputWrite w =>
      refine ⟨_, _, step_inputWrite hsched, step_inputWrite hsched', ?_⟩
      obtain ⟨_, _, _, _, rfl⟩ := h; exact ⟨_, _, _, _, rfl⟩

end

end State.SameBlock

/-- Settles O55: with one schedule the next event and the writes next to it are the same, so the next states differ in
the records only. -/
theorem recordsAreNeverRead : Obligations.RecordsAreNeverRead := by
  intro s s' t heq hstep
  obtain ⟨hsame, hsched⟩ := (withoutRecords_eq_iff s s').mp heq
  cases hs : s.sched with
  | nil =>
    obtain rfl : s = t := Host.Outcome.next.inj ((step_nothingOffered hs).symm.trans hstep)
    exact ⟨s', step_nothingOffered (hsched.trans hs), heq⟩
  | cons e es =>
    obtain ⟨u, t', hu, hstep', htt'⟩ := hsame.step_of_cons hs (hsched.trans hs) fun _ => rfl
    obtain rfl : u = t := Host.Outcome.next.inj (hu.symm.trans hstep)
    exact ⟨t', hstep', (withoutRecords_eq_iff u t').mpr ⟨htt', by rw [step_sched hstep', step_sched hstep, hsched]⟩⟩

end Sys2Proof.Machine
end

section
/-! PROOFS. Runs (R177, R197): a run as its steps one after another, and the statements about runs of any length: FAULT
is sticky (R14), SEQ counts its strobes (R174), and reporting is not counted (R134, R135). -/

namespace Sys2Proof.Machine

/-! ## A run, step by step -/

theorem core_run_succ {n : Nat} {s t : State} (h : step s = .next t) :
    Sys2Proof.core.run (n + 1) s = Sys2Proof.core.run n t := by
  have hcore : Sys2Proof.core.step s = .next t := h
  simp only [Host.Core.run, hcore]

theorem runScript_nil (s : State) : runScript [] s = .next { s with sched := [] } := rfl

/-- A script runs its first event, and then the rest as a script (log 1). -/
theorem runScript_cons {e : Event} {es : List Event} {s t : State} (h : step { s with sched := e :: es } = .next t) :
    runScript (e :: es) s = runScript es t := by
  have hsched : t.sched = es := step_sched h
  have ht : { t with sched := es } = t := by rw [← hsched]
  rw [runScript, List.length_cons, core_run_succ h, runScript, ht]

/-! ## FAULT -/

theorem step_keeps_fault {s t : State} (h : step s = .next t) (hfault : s.fault = true) : t.fault = true := by
  rcases step_fault h with hsame | ⟨hset, _⟩
  · exact hsame.trans hfault
  · exact hset

/-- Settles O59: by induction on the length of the run; no step clears FAULT. -/
theorem faultIsStickyThroughRuns : Obligations.FaultIsStickyThroughRuns := by
  intro n
  induction n with
  | zero =>
    intro s t hrun hfault
    obtain rfl : s = t := Host.Outcome.next.inj hrun
    exact hfault
  | succ n ih =>
    intro s t hrun hfault
    obtain ⟨u, hstep, _⟩ := exists_step_case s
    exact ih u t ((core_run_succ hstep).symm.trans hrun) (step_keeps_fault hstep hfault)

/-! ## SEQ -/

/-- From a connected state every event but CLOSE keeps the connection, and TICK_SEQ alone counts (R174, R191). -/
theorem step_of_connected {s t : State} {e : Event} {es : List Event} (hconn : s.conn = true)
    (hsched : s.sched = e :: es) (hclose : e ≠ .close) (hstep : step s = .next t) :
    t.conn = true ∧ t.seq = if e = .tickSeq then s.seq + 1 else s.seq := by
  have hconn' : t.conn = s.conn := by
    cases step_cases hstep with
    | connected _ hoff => simp [hconn] at hoff
    | closed hsched' => exact absurd (List.cons.inj (hsched.symm.trans hsched')).1 hclose
    | _ => rfl
  refine ⟨hconn'.trans hconn, ?_⟩
  split
  next he =>
    subst he
    rw [step_tickSeq hsched hconn] at hstep
    rw [← Host.Outcome.next.inj hstep]
  next he =>
    cases step_cases hstep with
    | connected _ hoff => simp [hconn] at hoff
    | tickSeq hsched' => exact absurd (List.cons.inj (hsched.symm.trans hsched')).1 he
    | _ => rfl

/-- Settles O56: adding 1 to the byte is adding 1 modulo 256. -/
theorem connectedStepCountsTicks : Obligations.ConnectedStepCountsTicks := by
  intro s t e es hconn hsched hclose hstep
  obtain ⟨hconn', hseq⟩ := step_of_connected hconn hsched hclose hstep
  refine ⟨hconn', ?_⟩
  rw [hseq]
  split
  · exact BitVec.toNat_add s.seq 1
  · rfl

theorem runScript_counts_ticks {es : List Event} {s : State} (hconn : s.conn = true) (hclose : Event.close ∉ es) :
    ∃ t, runScript es s = .next t ∧ t.conn = true ∧ t.seq = s.seq + BitVec.ofNat 8 (es.count .tickSeq) := by
  induction es generalizing s with
  | nil => exact ⟨_, runScript_nil s, hconn, (BitVec.add_zero s.seq).symm⟩
  | cons e es ih =>
    rw [List.mem_cons, not_or] at hclose
    obtain ⟨t, hstep, _⟩ := exists_step_case { s with sched := e :: es }
    obtain ⟨hconn', hseq⟩ := step_of_connected (s := { s with sched := e :: es }) hconn rfl (Ne.symm hclose.1) hstep
    obtain ⟨u, hrun, huconn, huseq⟩ := ih hconn' hclose.2
    refine ⟨u, (runScript_cons hstep).trans hrun, huconn, ?_⟩
    rw [huseq, hseq]
    by_cases he : e = .tickSeq
    · rw [if_pos he, he, List.count_cons_self, BitVec.ofNat_add, BitVec.add_comm (BitVec.ofNat 8 _)]
      exact BitVec.add_assoc s.seq 1 _
    · rw [if_neg he, List.count_cons_of_ne he]

/-- Settles O57: by induction on the script, each event counts as in `step_of_connected`; 256 is 0 in 8 bits. -/
theorem seqCountsTicksInEveryInterleaving : Obligations.SeqCountsTicksInEveryInterleaving := by
  intro es s hconn hclose
  obtain ⟨t, hrun, htconn, htseq⟩ := runScript_counts_ticks hconn hclose
  refine ⟨t, hrun, htconn, htseq, fun h256 => ?_⟩
  rw [htseq, h256]
  exact BitVec.add_zero s.seq

/-! ## A run that goes on -/

/-- After the events `es` no INPUT_WRITE stands next, whatever frames wait. -/
def NoWritesNext (es : List Event) : Prop := ∀ rxEmpty, writesNext rxEmpty es = []

theorem NoWritesNext.append {cs : List Event} (h : NoWritesNext cs) (es : List Event) :
    SameWritesNext es (es ++ cs) := by
  intro rxEmpty
  induction es with
  | nil => exact h rxEmpty
  | cons e es ih =>
    cases e with
    | inputWrite w => exact congrArg (w :: ·) ih
    | rx tear =>
      cases rxEmpty with
      | true => exact ih
      | false => rfl
    | tickSeq | tickRpt | connect | close => rfl

/-- A script with more events after it runs as it does alone, up to the schedule and the records, where those events do
not begin with writes (R50). -/
theorem runScript_append {cs : List Event} (hcs : NoWritesNext cs) {es : List Event} {s s' : State}
    (h : s.SameBlock s') :
    ∃ u u', runScript es s = .next u ∧ runScript (es ++ cs) s' = runScript cs u' ∧ u.SameBlock u' := by
  induction es generalizing s s' with
  | nil =>
    refine ⟨_, s', runScript_nil s, rfl, ?_⟩
    obtain ⟨_, _, _, _, rfl⟩ := h; exact ⟨_, _, _, _, rfl⟩
  | cons e es ih =>
    obtain ⟨t, t', hstep, hstep', htt'⟩ :=
      (h.withSched (e :: es) (e :: (es ++ cs))).step_of_cons rfl rfl (hcs.append es)
    obtain ⟨u, u', hrun, hrun', huu'⟩ := ih htt'
    exact ⟨u, u', (runScript_cons hstep).trans hrun, (runScript_cons hstep').trans hrun', huu'⟩

/-! ## Enabling and disabling -/

/-- An event of one of the two timers. -/
def IsTick (e : Event) : Prop := e = .tickSeq ∨ ∃ t, e = .tickRpt t

theorem noWritesNext_of_ticks {es : List Event} (h : ∀ e ∈ es, IsTick e) : NoWritesNext es := by
  intro rxEmpty
  cases es with
  | nil => rfl
  | cons e es => rcases h e List.mem_cons_self with rfl | ⟨t, rfl⟩ <;> rfl

/-- Connected, without the echo, with these frames waiting. -/
structure State.Waits (s : State) (frames : List (List Byte)) : Prop where
  conn : s.conn = true
  silent : s.cfg.pEchoEn = false
  rx : s.rx = frames

/-- A tick keeps RPT_EN and the waiting frames, and transmits only where RPT_EN is 1 (R174, R175). -/
theorem step_tick {s : State} {e : Event} {es : List Event} {frames : List (List Byte)} (hs : s.Waits frames)
    (hsched : s.sched = e :: es) (he : IsTick e) :
    ∃ t, step s = .next t ∧ t.Waits frames ∧ t.rptEn = s.rptEn ∧ (s.rptEn = false → t.tx = s.tx) := by
  rcases he with rfl | ⟨tear, rfl⟩
  · exact ⟨_, step_tickSeq hsched hs.conn, ⟨hs.conn, hs.silent, hs.rx⟩, rfl, fun _ => rfl⟩
  · cases hrpt : s.rptEn with
    | true => exact ⟨_, step_tickRpt_enabled hsched hs.conn hrpt, ⟨hs.conn, hs.silent, hs.rx⟩, hrpt, nofun⟩
    | false => exact ⟨_, step_tickRpt_disabled hsched hs.conn hrpt, ⟨hs.conn, hs.silent, hs.rx⟩, hrpt, fun _ => rfl⟩

theorem runScript_ticks {ticks : List Event} (hticks : ∀ e ∈ ticks, IsTick e) (cs : List Event) {s : State}
    {frames : List (List Byte)} (hs : s.Waits frames) :
    ∃ t, runScript (ticks ++ cs) s = runScript cs t ∧ t.Waits frames ∧ t.rptEn = s.rptEn ∧
      (s.rptEn = false → t.tx = s.tx) := by
  induction ticks generalizing s with
  | nil => exact ⟨s, rfl, hs, rfl, fun _ => rfl⟩
  | cons e ticks ih =>
    have hs' : { s with sched := e :: (ticks ++ cs) }.Waits frames := ⟨hs.conn, hs.silent, hs.rx⟩
    obtain ⟨t, hstep, ht, htrpt, httx⟩ := step_tick hs' rfl (hticks e List.mem_cons_self)
    obtain ⟨u, hrun, hu, hurpt, hutx⟩ := ih (fun e he => hticks e (List.mem_cons_of_mem _ he)) ht
    exact ⟨u, (runScript_cons hstep).trans hrun, hu, hurpt.trans htrpt,
      fun hoff => (hutx (htrpt.trans hoff)).trans (httx hoff)⟩

/-- A frame that decodes to one of the two commands, without the echo, writes RPT_EN and leaves the transport. -/
theorem runScript_rptCommand {i : Instr} {on : Bool} (hwrite : rptEnWrite i = some on) {F : List Byte}
    (hdec : ∀ c, decode c F = .ok i) (tear : Tear) (cs : List Event) {s : State} {frames : List (List Byte)}
    (hs : s.Waits (F :: frames)) :
    ∃ t, runScript (.rx tear :: cs) s = runScript cs t ∧ t.Waits frames ∧ t.rptEn = on := by
  let s' : State := { s with sched := .rx tear :: cs }
  let ready : State := (s'.reading tear cs frames).record (.frameIn F)
  have hstep : step s' = exec i ready := step_command rfl hs.conn hs.rx (hdec _)
  have hexec : exec i ready = .next { ready with rptEn := on } := by
    rcases eq_of_rptEnWrite hwrite with ⟨rfl, rfl⟩ | ⟨rfl, rfl⟩
    · exact exec_hsRptOn_silent hs.silent
    · exact exec_hsRptOff_silent hs.silent
  exact ⟨_, runScript_cons (hstep.trans hexec), ⟨hs.conn, hs.silent, rfl⟩, rfl⟩

/-- Settles O58: each of the three frames sets or clears RPT_EN whatever it was, ticks keep it, and the longer script
reaches the same block before its last ticks, which transmit nothing (`runScript_append`). -/
theorem doubleEnableIsUndoneByOneDisable : Obligations.DoubleEnableIsUndoneByOneDisable := by
  intro s t1 t2 t3 a b c hticks hconn hecho hrx
  have ha : ∀ e ∈ a, IsTick e := fun e he => hticks e (by simp [he])
  have hb : ∀ e ∈ b, IsTick e := fun e he => hticks e (by simp [he])
  have hc : ∀ e ∈ c, IsTick e := fun e he => hticks e (by simp [he])
  have hon (cfg : Config) : decode cfg [0x80, 0x04] = .ok .hsRptOn := selectsHandshake_decodeHandshake 0x04 cfg []
  have hoff (cfg : Config) : decode cfg [0x80, 0x05] = .ok .hsRptOff := selectsHandshake_decodeHandshake 0x05 cfg []
  have hs : s.Waits [[0x80, 0x04], [0x80, 0x04], [0x80, 0x05]] := ⟨hconn, hecho, hrx⟩
  obtain ⟨s1, hrun1, hs1, _⟩ := runScript_rptCommand rfl hon t1 (a ++ .rx t2 :: (b ++ [.rx t3])) hs
  obtain ⟨s2, hrun2, hs2, _⟩ := runScript_ticks ha (.rx t2 :: (b ++ [.rx t3])) hs1
  obtain ⟨s3, hrun3, hs3, _⟩ := runScript_rptCommand rfl hon t2 (b ++ [.rx t3]) hs2
  obtain ⟨s4, hrun4, hs4, _⟩ := runScript_ticks hb [.rx t3] hs3
  obtain ⟨u, hrun5, hu, huoff⟩ := runScript_rptCommand rfl hoff t3 [] hs4
  have hrun : runScript (.rx t1 :: a ++ .rx t2 :: b ++ [.rx t3]) s = .next { u with sched := [] } := by
    simpa using (hrun1.trans <| hrun2.trans <| hrun3.trans <| hrun4.trans <| hrun5.trans (runScript_nil u))
  obtain ⟨u', w, hrunu, hrunw, huw⟩ := runScript_append (noWritesNext_of_ticks hc)
    (es := .rx t1 :: a ++ .rx t2 :: b ++ [.rx t3]) (s := s) ⟨_, _, _, _, rfl⟩
  obtain rfl : u' = { u with sched := [] } := Host.Outcome.next.inj (hrunu.symm.trans hrun)
  have hwoff : w.rptEn = false := huw.rptEn_eq.trans huoff
  have hw : w.Waits [] :=
    ⟨huw.conn_eq.trans hu.conn, by rw [huw.sameReads.cfg]; exact hu.silent, huw.rx_eq.trans hu.rx⟩
  obtain ⟨v, hrunv, hv, hvrpt, hvtx⟩ := runScript_ticks hc [] hw
  refine ⟨_, { v with sched := [] }, hrun, ?_, huoff, hvrpt.trans hwoff, (hvtx hwoff).trans huw.tx_eq, hv.conn⟩
  have hlong : runScript (c ++ []) w = .next { v with sched := [] } := hrunv.trans (runScript_nil v)
  simpa using hrunw.trans (List.append_nil c ▸ hlong)

end Sys2Proof.Machine
end
